-- ==== Sys2Proof/Word.lean ====
section
/-! DEFINITION. The data sizes of MMIX (00_scope.md glossary, R5) and the two readings of a 64-bit
value (R8). -/

namespace Sys2Proof

/-- A byte, 8 bits. -/
abbrev Byte := BitVec 8

/-- A wyde, 16 bits: two bytes. -/
abbrev Wyde := BitVec 16

/-- A tetrabyte, 32 bits: two wydes, the size of an instruction (R5). -/
abbrev Tetra := BitVec 32

/-- An octabyte, 64 bits: the contents of a register, an address while it is computed (R5). -/
abbrev Word := BitVec 64

/-- A general register number, 0 to 255 (10_state.md R20). -/
abbrev Reg := Fin 256

/-- `u64(i)`, the 64-bit value congruent to the integer i (00_scope.md R8). -/
def u64 (i : Int) : Word := BitVec.ofInt 64 i

/-- `s(v)`, the signed reading of a 64-bit value (00_scope.md R8). -/
def signed (v : Word) : Int := v.toInt

end Sys2Proof
end

