-- ==== Sys2Proof/Config.lean ====
section
/-! DEFINITION. What the spec leaves to the launch: the eight parameters of 00_scope.md R6, and the
values this model names where neither the spec nor a launch gives one. -/

namespace Sys2Proof

/-- A closed range of byte addresses; a list of them stands for the predicate `MAPPED`
(DESIGN CHOICE, log 20). -/
structure AddrRange where
  first : Nat
  last : Nat
deriving DecidableEq, Repr

/-- `OVERFLOW_RESPONSE`, what an integer overflow exception does to the run (60_exceptions.md R263). -/
inductive OverflowResponse where
  /-- The run ends in a fault that names the event and the location; the spec's default. -/
  | fault
  /-- The sticky bit `ovf` is set and the instruction completes. -/
  | record
deriving DecidableEq, Repr

/-- The parameters a launch takes (00_scope.md R6). A list of pairs stands for a partial map. -/
structure Launch where
  /-- `INIT_PC`: the location of the first instruction. -/
  initPc : Word
  /-- `INIT_REG`: the general registers that the launch gives a value. -/
  initReg : List (Reg × Word)
  /-- `INIT_RM`: the value of rM, if the launch gives one. -/
  initRm : Option Word
  /-- `INIT_MEM`: the memory bytes that hold a value at launch. -/
  initMem : List (Nat × Byte)
  /-- `TEXT`: the addresses of the program, with the tetrabyte at each. -/
  text : List (Nat × Tetra)
  /-- `EXIT`: reaching one of these addresses ends the run. -/
  exit : List Nat
  /-- `MAPPED`: the data addresses the launch admits. -/
  mapped : List AddrRange
  /-- `OVERFLOW_RESPONSE`. -/
  overflowResponse : OverflowResponse
deriving DecidableEq, Repr

/-- Every byte address: `MAPPED` by default (00_scope.md R6). -/
def Config.allMapped : List AddrRange := [⟨0, 2 ^ 64 - 1⟩]

/-- `OVERFLOW_RESPONSE` by default (00_scope.md R6). -/
def Config.defaultOverflowResponse : OverflowResponse := .fault

/-- The value of a general register that the launch gives none. DESIGN CHOICE, unsafe (log 1): the
spec says that such a register holds no value (10_state.md R33). -/
def Config.unsetRegister : Word := 0

/-- The value of rM when the launch gives none. DESIGN CHOICE, unsafe (log 2): the spec says that rM
then holds no value (10_state.md R24, R33). -/
def Config.unsetRm : Word := 0

/-- The location of the first instruction after reset. DESIGN CHOICE, unsafe (log 3): the spec has
`INIT_PC` as a parameter (10_state.md R33) and uses #100 in its own programs (95_test_vectors.md,
Part C). -/
def Config.resetPc : Word := 0x100

/-- The launch that reset stands for: no program, nothing given, every default of 00_scope.md R6. -/
def Launch.standard : Launch where
  initPc := Config.resetPc
  initReg := []
  initRm := none
  initMem := []
  text := []
  exit := []
  mapped := Config.allMapped
  overflowResponse := Config.defaultOverflowResponse

end Sys2Proof
end

