-- ==== Sys2Proof/Machine/State.lean ====
section
/-! DEFINITION. The state of MMIX (10_state.md), the ways a step can stop (60_exceptions.md R276), and
the state after reset (10_state.md R33). State is plain data. -/

namespace Sys2Proof.Machine

/-- The bytes of M that hold a value, as pairs of an address and a byte. The canonical form
(`Memory.wf`) has the addresses strictly rising and below 2^64. A byte that is not listed holds no
value (10_state.md R33, log 4). -/
abbrev Memory := List Host.Cell

/-- The execution environment: the launch parameters a step reads and nothing writes
(00_scope.md R6). -/
structure Env where
  /-- The addresses of `TEXT`; its tetrabytes stand in memory. -/
  text : List Nat
  /-- The addresses of `EXIT`. -/
  exit : List Nat
  /-- The ranges of `MAPPED`. -/
  mapped : List AddrRange
  /-- `OVERFLOW_RESPONSE`. -/
  overflowResponse : OverflowResponse
deriving DecidableEq, Repr

/-- The state of the machine: everything the spec gives it (INVENTORY.md, State). -/
structure State where
  /-- The general registers `$0` to `$255` (10_state.md R20, R22). -/
  regs : Vector Word 256
  /-- The location of the current instruction (10_state.md R25). -/
  pc : Word
  /-- The special mask register (10_state.md R24). -/
  rM : Word
  /-- The virtual memory M (10_state.md R31). -/
  mem : Memory
  /-- The sticky overflow bit of the response `record` (10_state.md R28); false and unused under
  `fault` (log 24). -/
  ovf : Bool
  /-- The parameters of the launch (00_scope.md R6). -/
  env : Env
deriving DecidableEq, Repr

/-- Why the machine stops (60_exceptions.md R276). -/
inductive Fault where
  /-- IntegerOverflow under the response `fault`: raised by `State.raiseIntegerOverflow` for STB, STW,
  STT, ADD, SUB, NEG and SL. It names the location of the instruction and carries the faulted state,
  in which the instruction's write is made and `pc` is that location (60_exceptions.md R262, R263).
  Safe: the run goes no further, whatever the hardware does after the exception. -/
  | integerOverflow (location : Word) (faulted : State)
  /-- A load, or the fetch, of a byte that holds no value, naming the first such byte
  (10_state.md R33). Safe: the hardware's byte has some value that no claim can use. -/
  | unwrittenByte (address : Nat)
  /-- A load or store whose aligned range is not wholly in `MAPPED`: the agent is stuck
  (20_memory.md R49). Safe: a launch that admits the address runs on. -/
  | outsideMapped (address size : Nat)
  /-- `pc` is in neither `TEXT` nor `EXIT`: the agent is stuck (70_reset_and_hazards.md R282). Raised by
  `step`. Safe: nothing is run that is not the program. -/
  | fetchOutsideText (location : Word)
  /-- `pc` is in `EXIT`: the run has ended in this final state (70_reset_and_hazards.md R282). Not a
  failure: the step has no next state to answer (60_exceptions.md R276, log 10). Raised by `step`. Safe:
  nothing is run after the end. -/
  | runEnded (final : State)
deriving DecidableEq, Repr

/-- Why the machine has no meaning for what it is given (60_exceptions.md R276). -/
inductive Refusal where
  /-- An instruction whose meaning is not written. No arm of `exec` raises it. Safe. -/
  | notModelled (mnemonic : String)
  /-- One of the 74 operation codes whose meaning no source gives, with its number and the chart's
  name (30_encoding.md R75). Raised by their meanings. Safe: no meaning is guessed. -/
  | opcodeNotSpecified (op : Byte) (name : String)
  /-- A store whose aligned range meets `TEXT` (20_memory.md R53). Raised by `State.store`. Safe: the
  source does not say whether a later fetch sees the store. -/
  | storeIntoText (address size : Nat)
deriving DecidableEq, Repr

/-- The outcome of an instruction or a step. -/
abbrev Result := Host.Outcome State Fault Refusal

/-- The state after reset: the launch with no program and nothing given (10_state.md R33,
70_reset_and_hazards.md R280). Registers, rM and pc: log 1, 2, 3; TEXT and EXIT: log 5. -/
def State.reset : State where
  regs := Vector.replicate 256 Config.unsetRegister
  pc := Config.resetPc
  rM := Config.unsetRm
  mem := []
  ovf := false
  env := ⟨[], [], Config.allMapped, Config.defaultOverflowResponse⟩

end Sys2Proof.Machine
end

