-- ==== Sys2Proof/Machine/Ops.lean ====
section
/-! DEFINITION. The operations every meaning is made of: registers, location, memory, the integer
overflow exception, loads and stores. -/

namespace Sys2Proof.Machine

/-! ## Registers and location -/

/-- `x[i]`: the value of general register `$i`. No register is hardwired (10_state.md R21). -/
def State.reg (s : State) (r : Reg) : Word := s.regs[r.val]

/-- `x[i] <- v` (00_scope.md R10). -/
def State.setReg (s : State) (r : Reg) (v : Word) : State := { s with regs := s.regs.set r.val v }

/-- `pc <- u64(pc + 4)` (10_state.md R26). The reduction mod 2^64 is log 12. -/
def State.advance (s : State) : State := { s with pc := s.pc + 4 }

/-- An instruction that writes the value v to `$X` and nothing else: `x[X] <- v; pc <- u64(pc + 4)`. -/
def State.result (s : State) (x : Reg) (v : Word) : Result := .next (s.setReg x v).advance

/-! ## The integer overflow exception (60_exceptions.md R260 to R263) -/

/-- `raise IntegerOverflow`, in the state where the instruction's write is made and `pc` is still its own
location (60_exceptions.md R262). Under `fault` the run ends there; under `record` the sticky bit is
set and the instruction completes (R263). There is no trap entry and no return from one (R266, R267). -/
def State.raiseIntegerOverflow (s : State) : Result :=
  match s.env.overflowResponse with
  | .fault => .fault (.integerOverflow s.pc s)
  | .record => .next ({ s with ovf := true } : State).advance

/-- The end of an instruction whose writes are made: the exception if its condition holds, otherwise
`pc <- u64(pc + 4)`. -/
def State.complete (s : State) (overflow : Bool) : Result :=
  if overflow then s.raiseIntegerOverflow else .next s.advance

/-! ## Memory (20_memory.md) -/

/-- The byte M[a], if it holds a value. -/
def Memory.read : Memory → Nat → Option Byte
  | [], _ => none
  | (k, v) :: m, a => if a = k then some v else Memory.read m a

/-- `M[a] <- b`, in canonical form. -/
def Memory.write : Memory → Nat → Byte → Memory
  | [], a, b => [(a, b)]
  | (k, v) :: m, a, b =>
    if a < k then (a, b) :: (k, v) :: m
    else if a = k then (a, b) :: m
    else (k, v) :: Memory.write m a b

/-- The addresses of a memory rise strictly from `low` on and stay below 2^64. -/
def Memory.risesFrom : Nat → Memory → Bool
  | _, [] => true
  | low, (k, _) :: m => low ≤ k && k < 2 ^ 64 && Memory.risesFrom (k + 1) m

/-- The canonical form of a memory. No entry says what an unlisted address reads as, since that is no
value at all. -/
def Memory.wf (m : Memory) : Bool := Memory.risesFrom 0 m

/-- The n bytes from address a on, or the first address among them whose byte holds no value. -/
def Memory.readBytes (m : Memory) : Nat → Nat → Except Nat (List Byte)
  | _, 0 => .ok []
  | a, n + 1 =>
    match Memory.read m a with
    | none => .error a
    | some b =>
      match Memory.readBytes m (a + 1) n with
      | .error e => .error e
      | .ok bs => .ok (b :: bs)

/-- The bytes written one after the other from address a on. -/
def Memory.writeBytes : Memory → Nat → List Byte → Memory
  | m, _, [] => m
  | m, a, b :: bs => Memory.writeBytes (Memory.write m a b) (a + 1) bs

/-- Bytes read as a number in radix 256, the first the most significant (20_memory.md R40). -/
def numberOfBytes (bytes : List Byte) : Nat := bytes.foldl (fun n b => n * 256 + b.toNat) 0

/-- The n low bytes of a value, the most significant first (00_scope.md R12, `MemWrite`). -/
def bytesOfWord : Nat → Word → List Byte
  | 0, _ => []
  | n + 1, v => v.extractLsb' (8 * n) 8 :: bytesOfWord n v

/-- The widths of an access (20_memory.md R45). -/
inductive Size where
  | byte
  | wyde
  | tetra
  | octa
deriving DecidableEq, Repr

/-- How many bytes an access moves (20_memory.md R45). -/
def sizeBytes : Size → Nat
  | .byte => 1
  | .wyde => 2
  | .tetra => 4
  | .octa => 8

/-- `align(A, n)`: A with its low log2(n) bits zero (00_scope.md R12). -/
def align (a n : Nat) : Nat := a - a % n

/-- The address an access uses: the effective address with the low bits ignored (20_memory.md R42). -/
def accessAddress (a : Word) (z : Size) : Nat := align a.toNat (sizeBytes z)

/-- The byte at address a is in `MAPPED` (20_memory.md R49). -/
def Env.mappedByte (e : Env) (a : Nat) : Bool := e.mapped.any fun r => r.first ≤ a && a ≤ r.last

/-- The n bytes from a on are wholly in `MAPPED` (20_memory.md R49). -/
def Env.mappedRange (e : Env) (a n : Nat) : Bool := (List.range n).all fun i => e.mappedByte (a + i)

/-- The byte at address a belongs to a tetrabyte of `TEXT`. -/
def Env.textByte (e : Env) (a : Nat) : Bool := e.text.contains (align a 4)

/-- The n bytes from a on meet `TEXT` (20_memory.md R49, R53). -/
def Env.meetsText (e : Env) (a n : Nat) : Bool := (List.range n).any fun i => e.textByte (a + i)

/-- `x[X] <- extend(MemRead(align(A, n), n))`, with the checks in the order of 60_exceptions.md R265:
first `MAPPED`, then a byte without a value. -/
def State.load (s : State) (x : Reg) (a : Word) (z : Size) (extend : Nat → Word) : Result :=
  if s.env.mappedRange (accessAddress a z) (sizeBytes z) then
    match s.mem.readBytes (accessAddress a z) (sizeBytes z) with
    | .error e => .fault (.unwrittenByte e)
    | .ok bytes => s.result x (extend (numberOfBytes bytes))
  else .fault (.outsideMapped (accessAddress a z) (sizeBytes z))

/-- The state after `MemWrite(align(A, n), n, v)`, v cut to its n low bytes (00_scope.md R12). -/
def State.storeBytes (s : State) (a : Word) (z : Size) (v : Word) : State :=
  { s with mem := s.mem.writeBytes (accessAddress a z) (bytesOfWord (sizeBytes z) v) }

/-- `MemWrite(align(A, n), n, v)` and then the exception if `overflow` holds, with the checks in the
order of 60_exceptions.md R265: `MAPPED`, `TEXT`, the write, the exception. -/
def State.store (s : State) (a : Word) (z : Size) (v : Word) (overflow : Bool) : Result :=
  if s.env.mappedRange (accessAddress a z) (sizeBytes z) then
    if s.env.meetsText (accessAddress a z) (sizeBytes z) then
      .refused (.storeIntoText (accessAddress a z) (sizeBytes z))
    else (s.storeBytes a z v).complete overflow
  else .fault (.outsideMapped (accessAddress a z) (sizeBytes z))

end Sys2Proof.Machine
end

