-- ==== Sys2Proof/Machine/Operands.lean ====
section
/-! DEFINITION. The operand forms of 30_encoding.md R61 to R66. The register form of the second operand
`$Z|Z` is `s.reg z`. -/

namespace Sys2Proof.Machine

/-- An immediate constant: `zext_64(Z)`, 0 to 255, never negative (30_encoding.md R63, R64). -/
def immediate (z : Byte) : Word := z.setWidth 64

/-- `A = u64(x[Y] + Zop)` (20_memory.md R44). -/
def effectiveAddress (y z : Word) : Word := u64 (y.toNat + z.toNat)

/-- `s_n(v)`, the signed reading of an n-bit value (00_scope.md R8). -/
def signedReading (n v : Nat) : Int := if v < 2 ^ (n - 1) then v else (v : Int) - 2 ^ n

/-- `sext_64(v)` of an n-bit value (00_scope.md R9). -/
def signExtend (n v : Nat) : Word := u64 (signedReading n v)

/-- `zext_64(v)` (00_scope.md R9). -/
def zeroExtend (v : Nat) : Word := u64 v

/-- A tetrabyte in the high half of a register, the low half zero (40_load_store.md R99). -/
def highTetra (v : Nat) : Word := u64 (v * 2 ^ 32)

/-- The wyde of a register that a wyde-immediate instruction touches (43_wyde_immediate.md R170). -/
inductive WydePosition where
  | high
  | mediumHigh
  | mediumLow
  | low
deriving DecidableEq, Repr

/-- How far YZ is shifted left (43_wyde_immediate.md R170). -/
def wydeShift : WydePosition → Nat
  | .high => 48
  | .mediumHigh => 32
  | .mediumLow => 16
  | .low => 0

/-- `W = YZ * 2^shift` (30_encoding.md R65, 43_wyde_immediate.md R170). -/
def wydeOperand (p : WydePosition) (yz : Wyde) : Word := u64 (yz.toNat * 2 ^ wydeShift p)

/-- The direction of a branch: the low bit of its operation code (46_branch.md R230). -/
inductive Direction where
  | forward
  | backward
deriving DecidableEq, Repr

/-- The branch offset in tetrabytes: YZ forward, YZ - 65536 backward (30_encoding.md R66). -/
def branchOffset : Direction → Wyde → Int
  | .forward, yz => yz.toNat
  | .backward, yz => (yz.toNat : Int) - 65536

/-- `u64(pc + 4 * offset)` (46_branch.md R230). The reduction mod 2^64 is log 12. -/
def branchTarget (pc : Word) (d : Direction) (yz : Wyde) : Word := u64 (pc.toNat + 4 * branchOffset d yz)

end Sys2Proof.Machine
end

