-- ==== Sys2Proof/Machine/Flags.lean ====
section
/-! DEFINITION. MMIX has no condition codes (10_state.md R27). What a flag computation is on other
machines are here the conditions of the integer overflow exception (60_exceptions.md R261), the two
comparisons (45_compare_conditional.md R200, R201) and the eight register conditions (R202). -/

namespace Sys2Proof.Machine

/-- The exact result is not in the range of a signed octabyte: `t >= 2^63 or t < -2^63`
(60_exceptions.md R261, the rows ADD, SUB, SL). -/
def overflows (t : Int) : Bool := 2 ^ 63 ≤ t || t < -(2 ^ 63)

/-- The exact result of NEG is greater than 2^63 - 1 (60_exceptions.md R261, the row NEG). -/
def negOverflows (t : Int) : Bool := 2 ^ 63 - 1 < t

/-- The signed value of a register is not in the range of n signed bits (60_exceptions.md R261, the rows
STB, STW, STT). -/
def exceedsSigned (n : Nat) (v : Word) : Bool :=
  signed v < -(2 ^ (n - 1)) || 2 ^ (n - 1) - 1 < signed v

/-- -1, 0 or 1 as the first number is less than, equal to or greater than the second
(45_compare_conditional.md R200, R201). -/
def compareInts (a b : Int) : Word := u64 ((if b < a then 1 else 0) - (if a < b then 1 else 0))

/-- The eight register conditions (45_compare_conditional.md R202). -/
inductive Condition where
  | negative
  | zero
  | positive
  | odd
  | nonnegative
  | nonzero
  | nonpositive
  | even
deriving DecidableEq, Repr

/-- `cond_c(v)` (45_compare_conditional.md R202). -/
def conditionHolds : Condition → Word → Bool
  | .negative, v => signed v < 0
  | .zero, v => v == 0
  | .positive, v => 0 < signed v
  | .odd, v => v.toNat % 2 == 1
  | .nonnegative, v => 0 ≤ signed v
  | .nonzero, v => v != 0
  | .nonpositive, v => signed v ≤ 0
  | .even, v => v.toNat % 2 == 0

end Sys2Proof.Machine
end

