-- ==== Sys2Proof/Machine/Arithmetic.lean ====
section
/-! DEFINITION. Adding and subtracting (41_add_subtract.md). A signed instruction computes the exact
integer, writes its low 64 bits, and raises IntegerOverflow if it is out of range (R119). -/

namespace Sys2Proof.Machine

/-- `x[X] <- u64(t)`, then IntegerOverflow if t is out of range (41_add_subtract.md R119). -/
def State.signedResult (s : State) (x : Reg) (t : Int) : Result :=
  (s.setReg x (u64 t)).complete (overflows t)

/-- ADD `ADD $X,$Y,$Z`, operation code #20 (41_add_subtract.md R120). -/
def execAdd (x y z : Reg) (s : State) : Result :=
  s.signedResult x (signed (s.reg y) + signed (s.reg z))

/-- ADDI `ADD $X,$Y,Z`, operation code #21 (41_add_subtract.md R120). -/
def execAddi (x y : Reg) (z : Byte) (s : State) : Result :=
  s.signedResult x (signed (s.reg y) + signed (immediate z))

/-- SUB `SUB $X,$Y,$Z`, operation code #24 (41_add_subtract.md R126). -/
def execSub (x y z : Reg) (s : State) : Result :=
  s.signedResult x (signed (s.reg y) - signed (s.reg z))

/-- SUBI `SUB $X,$Y,Z`, operation code #25 (41_add_subtract.md R126). -/
def execSubi (x y : Reg) (z : Byte) (s : State) : Result :=
  s.signedResult x (signed (s.reg y) - signed (immediate z))

/-- ADDU `ADDU $X,$Y,$Z`, operation code #22 (41_add_subtract.md R121). -/
def execAddu (x y z : Reg) (s : State) : Result :=
  s.result x (u64 ((s.reg y).toNat + (s.reg z).toNat))

/-- ADDUI `ADDU $X,$Y,Z`, operation code #23 (41_add_subtract.md R121). -/
def execAddui (x y : Reg) (z : Byte) (s : State) : Result :=
  s.result x (u64 ((s.reg y).toNat + (immediate z).toNat))

/-- 2ADDU `2ADDU $X,$Y,$Z`, operation code #28 (41_add_subtract.md R122). -/
def execAddu2 (x y z : Reg) (s : State) : Result :=
  s.result x (u64 (2 * (s.reg y).toNat + (s.reg z).toNat))

/-- 2ADDUI `2ADDU $X,$Y,Z`, operation code #29 (41_add_subtract.md R122). -/
def execAddu2i (x y : Reg) (z : Byte) (s : State) : Result :=
  s.result x (u64 (2 * (s.reg y).toNat + (immediate z).toNat))

/-- 4ADDU `4ADDU $X,$Y,$Z`, operation code #2A (41_add_subtract.md R123). -/
def execAddu4 (x y z : Reg) (s : State) : Result :=
  s.result x (u64 (4 * (s.reg y).toNat + (s.reg z).toNat))

/-- 4ADDUI `4ADDU $X,$Y,Z`, operation code #2B (41_add_subtract.md R123). -/
def execAddu4i (x y : Reg) (z : Byte) (s : State) : Result :=
  s.result x (u64 (4 * (s.reg y).toNat + (immediate z).toNat))

/-- 8ADDU `8ADDU $X,$Y,$Z`, operation code #2C (41_add_subtract.md R124). -/
def execAddu8 (x y z : Reg) (s : State) : Result :=
  s.result x (u64 (8 * (s.reg y).toNat + (s.reg z).toNat))

/-- 8ADDUI `8ADDU $X,$Y,Z`, operation code #2D (41_add_subtract.md R124). -/
def execAddu8i (x y : Reg) (z : Byte) (s : State) : Result :=
  s.result x (u64 (8 * (s.reg y).toNat + (immediate z).toNat))

/-- 16ADDU `16ADDU $X,$Y,$Z`, operation code #2E (41_add_subtract.md R125). -/
def execAddu16 (x y z : Reg) (s : State) : Result :=
  s.result x (u64 (16 * (s.reg y).toNat + (s.reg z).toNat))

/-- 16ADDUI `16ADDU $X,$Y,Z`, operation code #2F (41_add_subtract.md R125). -/
def execAddu16i (x y : Reg) (z : Byte) (s : State) : Result :=
  s.result x (u64 (16 * (s.reg y).toNat + (immediate z).toNat))

/-- SUBU `SUBU $X,$Y,$Z`, operation code #26 (41_add_subtract.md R127). -/
def execSubu (x y z : Reg) (s : State) : Result :=
  s.result x (u64 ((s.reg y).toNat - (s.reg z).toNat : Int))

/-- SUBUI `SUBU $X,$Y,Z`, operation code #27 (41_add_subtract.md R127). -/
def execSubui (x y : Reg) (z : Byte) (s : State) : Result :=
  s.result x (u64 ((s.reg y).toNat - (immediate z).toNat : Int))

/-- `t <- Y - s(Zop); x[X] <- u64(t)`, then IntegerOverflow if t > 2^63 - 1 (41_add_subtract.md R128). -/
def State.negate (s : State) (x : Reg) (t : Int) : Result :=
  (s.setReg x (u64 t)).complete (negOverflows t)

/-- NEG `NEG $X,Y,$Z`, operation code #34 (41_add_subtract.md R128). -/
def execNeg (x : Reg) (y : Byte) (z : Reg) (s : State) : Result :=
  s.negate x ((immediate y).toNat - signed (s.reg z))

/-- NEGI `NEG $X,Y,Z`, operation code #35 (41_add_subtract.md R128). -/
def execNegi (x : Reg) (y z : Byte) (s : State) : Result :=
  s.negate x ((immediate y).toNat - signed (immediate z))

/-- NEGU `NEGU $X,Y,$Z`, operation code #36 (41_add_subtract.md R129). -/
def execNegu (x : Reg) (y : Byte) (z : Reg) (s : State) : Result :=
  s.result x (u64 ((immediate y).toNat - (s.reg z).toNat : Int))

/-- NEGUI `NEGU $X,Y,Z`, operation code #37 (41_add_subtract.md R129). -/
def execNegui (x : Reg) (y z : Byte) (s : State) : Result :=
  s.result x (u64 ((immediate y).toNat - (immediate z).toNat : Int))

end Sys2Proof.Machine
end

