-- ==== Sys2Proof/Machine/Bitwise.lean ====
section
/-! DEFINITION. Bitwise, bytewise and matrix operations (42_bitwise.md). -/

namespace Sys2Proof.Machine

/-- AND `AND $X,$Y,$Z`, operation code #C8 (42_bitwise.md R140). -/
def execAnd (x y z : Reg) (s : State) : Result := s.result x (s.reg y &&& s.reg z)

/-- ANDI `AND $X,$Y,Z`, operation code #C9 (42_bitwise.md R140). -/
def execAndi (x y : Reg) (z : Byte) (s : State) : Result := s.result x (s.reg y &&& immediate z)

/-- OR `OR $X,$Y,$Z`, operation code #C0 (42_bitwise.md R141). -/
def execOr (x y z : Reg) (s : State) : Result := s.result x (s.reg y ||| s.reg z)

/-- ORI `OR $X,$Y,Z`, operation code #C1 (42_bitwise.md R141). -/
def execOri (x y : Reg) (z : Byte) (s : State) : Result := s.result x (s.reg y ||| immediate z)

/-- XOR `XOR $X,$Y,$Z`, operation code #C6 (42_bitwise.md R142). -/
def execXor (x y z : Reg) (s : State) : Result := s.result x (s.reg y ^^^ s.reg z)

/-- XORI `XOR $X,$Y,Z`, operation code #C7 (42_bitwise.md R142). -/
def execXori (x y : Reg) (z : Byte) (s : State) : Result := s.result x (s.reg y ^^^ immediate z)

/-- ANDN `ANDN $X,$Y,$Z`, operation code #CA (42_bitwise.md R143). -/
def execAndn (x y z : Reg) (s : State) : Result := s.result x (s.reg y &&& ~~~(s.reg z))

/-- ANDNI `ANDN $X,$Y,Z`, operation code #CB (42_bitwise.md R143). -/
def execAndni (x y : Reg) (z : Byte) (s : State) : Result :=
  s.result x (s.reg y &&& ~~~(immediate z))

/-- ORN `ORN $X,$Y,$Z`, operation code #C2 (42_bitwise.md R144). -/
def execOrn (x y z : Reg) (s : State) : Result := s.result x (s.reg y ||| ~~~(s.reg z))

/-- ORNI `ORN $X,$Y,Z`, operation code #C3 (42_bitwise.md R144). -/
def execOrni (x y : Reg) (z : Byte) (s : State) : Result :=
  s.result x (s.reg y ||| ~~~(immediate z))

/-- NAND `NAND $X,$Y,$Z`, operation code #CC (42_bitwise.md R145). -/
def execNand (x y z : Reg) (s : State) : Result := s.result x (~~~(s.reg y &&& s.reg z))

/-- NANDI `NAND $X,$Y,Z`, operation code #CD (42_bitwise.md R145). -/
def execNandi (x y : Reg) (z : Byte) (s : State) : Result :=
  s.result x (~~~(s.reg y &&& immediate z))

/-- NOR `NOR $X,$Y,$Z`, operation code #C4 (42_bitwise.md R146). -/
def execNor (x y z : Reg) (s : State) : Result := s.result x (~~~(s.reg y ||| s.reg z))

/-- NORI `NOR $X,$Y,Z`, operation code #C5 (42_bitwise.md R146). -/
def execNori (x y : Reg) (z : Byte) (s : State) : Result :=
  s.result x (~~~(s.reg y ||| immediate z))

/-- NXOR `NXOR $X,$Y,$Z`, operation code #CE (42_bitwise.md R147). -/
def execNxor (x y z : Reg) (s : State) : Result := s.result x (~~~(s.reg y ^^^ s.reg z))

/-- NXORI `NXOR $X,$Y,Z`, operation code #CF (42_bitwise.md R147). -/
def execNxori (x y : Reg) (z : Byte) (s : State) : Result :=
  s.result x (~~~(s.reg y ^^^ immediate z))

/-- `(y & rM) | (z & ~rM)`: bit j of y where bit j of the mask is 1, of z where it is 0
(42_bitwise.md R148). -/
def multiplex (mask y z : Word) : Word := (y &&& mask) ||| (z &&& ~~~mask)

/-- MUX `MUX $X,$Y,$Z`, operation code #D8 (42_bitwise.md R148). -/
def execMux (x y z : Reg) (s : State) : Result := s.result x (multiplex s.rM (s.reg y) (s.reg z))

/-- MUXI `MUX $X,$Y,Z`, operation code #D9 (42_bitwise.md R148). -/
def execMuxi (x y : Reg) (z : Byte) (s : State) : Result :=
  s.result x (multiplex s.rM (s.reg y) (immediate z))

/-! ## Saturating differences -/

/-- Lane j of w bits of a value (42_bitwise.md R149). -/
def lane (w j : Nat) (v : Word) : Nat := v.toNat / 2 ^ (w * j) % 2 ^ w

/-- The saturating differences of the n low lanes of w bits, as one number; subtraction of naturals is
`monus_w` (42_bitwise.md R149). -/
def lanesDifference (w : Nat) (y z : Word) : Nat → Nat
  | 0 => 0
  | n + 1 => lanesDifference w y z n + (lane w n y - lane w n z) * 2 ^ (w * n)

/-- The saturating differences of all 64/w lanes (42_bitwise.md R150 to R153). -/
def saturatingDifference (w : Nat) (y z : Word) : Word :=
  BitVec.ofNat 64 (lanesDifference w y z (64 / w))

/-- BDIF `BDIF $X,$Y,$Z`, operation code #D0 (42_bitwise.md R150). -/
def execBdif (x y z : Reg) (s : State) : Result :=
  s.result x (saturatingDifference 8 (s.reg y) (s.reg z))

/-- BDIFI `BDIF $X,$Y,Z`, operation code #D1 (42_bitwise.md R150). -/
def execBdifi (x y : Reg) (z : Byte) (s : State) : Result :=
  s.result x (saturatingDifference 8 (s.reg y) (immediate z))

/-- WDIF `WDIF $X,$Y,$Z`, operation code #D2 (42_bitwise.md R151). -/
def execWdif (x y z : Reg) (s : State) : Result :=
  s.result x (saturatingDifference 16 (s.reg y) (s.reg z))

/-- WDIFI `WDIF $X,$Y,Z`, operation code #D3 (42_bitwise.md R151). -/
def execWdifi (x y : Reg) (z : Byte) (s : State) : Result :=
  s.result x (saturatingDifference 16 (s.reg y) (immediate z))

/-- TDIF `TDIF $X,$Y,$Z`, operation code #D4 (42_bitwise.md R152). -/
def execTdif (x y z : Reg) (s : State) : Result :=
  s.result x (saturatingDifference 32 (s.reg y) (s.reg z))

/-- TDIFI `TDIF $X,$Y,Z`, operation code #D5 (42_bitwise.md R152). -/
def execTdifi (x y : Reg) (z : Byte) (s : State) : Result :=
  s.result x (saturatingDifference 32 (s.reg y) (immediate z))

/-- ODIF `ODIF $X,$Y,$Z`, operation code #D6 (42_bitwise.md R153). -/
def execOdif (x y z : Reg) (s : State) : Result :=
  s.result x (saturatingDifference 64 (s.reg y) (s.reg z))

/-- ODIFI `ODIF $X,$Y,Z`, operation code #D7 (42_bitwise.md R153). -/
def execOdifi (x y : Reg) (z : Byte) (s : State) : Result :=
  s.result x (saturatingDifference 64 (s.reg y) (immediate z))

/-! ## Sideways add and bit-matrix products -/

/-- How many of the n low bits of a value are 1. -/
def onesBelow (v : Word) : Nat → Nat
  | 0 => 0
  | n + 1 => onesBelow v n + (v.getLsbD n).toNat

/-- `popcount(v)`, 0 to 64 (00_scope.md R14). -/
def popcount (v : Word) : Nat := onesBelow v 64

/-- SADD `SADD $X,$Y,$Z`, operation code #DA (42_bitwise.md R155). -/
def execSadd (x y z : Reg) (s : State) : Result :=
  s.result x (u64 (popcount (s.reg y &&& ~~~(s.reg z))))

/-- SADDI `SADD $X,$Y,Z`, operation code #DB (42_bitwise.md R155). -/
def execSaddi (x y : Reg) (z : Byte) (s : State) : Result :=
  s.result x (u64 (popcount (s.reg y &&& ~~~(immediate z))))

/-- The number whose n low bits are those of f. -/
def bitsBelow (f : Nat → Bool) : Nat → Nat
  | 0 => 0
  | n + 1 => bitsBelow f n + (if f n then 2 ^ n else 0)

/-- The 64-bit value whose bit p is `f p`. -/
def wordOfBits (f : Nat → Bool) : Word := BitVec.ofNat 64 (bitsBelow f 64)

/-- `v_ij` = `v[63 - 8i - j]`: bit j of byte i, both counted from the left (42_bitwise.md R156). -/
def matrixBit (v : Word) (i j : Nat) : Bool := v.getLsbD (63 - 8 * i - j)

/-- `(y_0j & z_i0) op ... op (y_7j & z_i7)` (42_bitwise.md R157, R158). -/
def matrixEntry (op : Bool → Bool → Bool) (y z : Word) (i j : Nat) : Bool :=
  (List.range 8).foldl (fun b k => op b (matrixBit y k j && matrixBit z i k)) false

/-- The product of y and z as 8 by 8 matrices, entries combined by op (42_bitwise.md R157, R158). -/
def matrixProduct (op : Bool → Bool → Bool) (y z : Word) : Word :=
  wordOfBits fun p => matrixEntry op y z ((63 - p) / 8) ((63 - p) % 8)

/-- MOR `MOR $X,$Y,$Z`, operation code #DC (42_bitwise.md R157). -/
def execMor (x y z : Reg) (s : State) : Result := s.result x (matrixProduct or (s.reg y) (s.reg z))

/-- MORI `MOR $X,$Y,Z`, operation code #DD (42_bitwise.md R157). -/
def execMori (x y : Reg) (z : Byte) (s : State) : Result :=
  s.result x (matrixProduct or (s.reg y) (immediate z))

/-- MXOR `MXOR $X,$Y,$Z`, operation code #DE (42_bitwise.md R158). -/
def execMxor (x y z : Reg) (s : State) : Result :=
  s.result x (matrixProduct xor (s.reg y) (s.reg z))

/-- MXORI `MXOR $X,$Y,Z`, operation code #DF (42_bitwise.md R158). -/
def execMxori (x y : Reg) (z : Byte) (s : State) : Result :=
  s.result x (matrixProduct xor (s.reg y) (immediate z))

end Sys2Proof.Machine
end

