-- ==== Sys2Proof/Machine/Branch.lean ====
section
/-! DEFINITION. Branches and probable branches (46_branch.md). A probable branch differs from its branch in
running time only (R239), which the model does not count (log 19). -/

namespace Sys2Proof.Machine

/-- `if cond_c(x[X]) then pc <- u64(pc + 4 * offset) else pc <- u64(pc + 4)` (46_branch.md R230). -/
def State.branch (s : State) (c : Condition) (d : Direction) (x : Reg) (yz : Wyde) : Result :=
  if conditionHolds c (s.reg x) then .next { s with pc := branchTarget s.pc d yz }
  else .next s.advance

/-- BN `BN $X,@+4*YZ`, operation code #40 (46_branch.md R231). -/
def execBn (x : Reg) (yz : Wyde) (s : State) : Result := s.branch .negative .forward x yz

/-- BNB `BN $X,@+4*YZ-262144`, operation code #41 (46_branch.md R231). -/
def execBnb (x : Reg) (yz : Wyde) (s : State) : Result := s.branch .negative .backward x yz

/-- BZ `BZ $X,@+4*YZ`, operation code #42 (46_branch.md R232). -/
def execBz (x : Reg) (yz : Wyde) (s : State) : Result := s.branch .zero .forward x yz

/-- BZB `BZ $X,@+4*YZ-262144`, operation code #43 (46_branch.md R232). -/
def execBzb (x : Reg) (yz : Wyde) (s : State) : Result := s.branch .zero .backward x yz

/-- BP `BP $X,@+4*YZ`, operation code #44 (46_branch.md R233). -/
def execBp (x : Reg) (yz : Wyde) (s : State) : Result := s.branch .positive .forward x yz

/-- BPB `BP $X,@+4*YZ-262144`, operation code #45 (46_branch.md R233). -/
def execBpb (x : Reg) (yz : Wyde) (s : State) : Result := s.branch .positive .backward x yz

/-- BOD `BOD $X,@+4*YZ`, operation code #46 (46_branch.md R234). -/
def execBod (x : Reg) (yz : Wyde) (s : State) : Result := s.branch .odd .forward x yz

/-- BODB `BOD $X,@+4*YZ-262144`, operation code #47 (46_branch.md R234). -/
def execBodb (x : Reg) (yz : Wyde) (s : State) : Result := s.branch .odd .backward x yz

/-- BNN `BNN $X,@+4*YZ`, operation code #48 (46_branch.md R235). -/
def execBnn (x : Reg) (yz : Wyde) (s : State) : Result := s.branch .nonnegative .forward x yz

/-- BNNB `BNN $X,@+4*YZ-262144`, operation code #49 (46_branch.md R235). -/
def execBnnb (x : Reg) (yz : Wyde) (s : State) : Result := s.branch .nonnegative .backward x yz

/-- BNZ `BNZ $X,@+4*YZ`, operation code #4A (46_branch.md R236). -/
def execBnz (x : Reg) (yz : Wyde) (s : State) : Result := s.branch .nonzero .forward x yz

/-- BNZB `BNZ $X,@+4*YZ-262144`, operation code #4B (46_branch.md R236). -/
def execBnzb (x : Reg) (yz : Wyde) (s : State) : Result := s.branch .nonzero .backward x yz

/-- BNP `BNP $X,@+4*YZ`, operation code #4C (46_branch.md R237). -/
def execBnp (x : Reg) (yz : Wyde) (s : State) : Result := s.branch .nonpositive .forward x yz

/-- BNPB `BNP $X,@+4*YZ-262144`, operation code #4D (46_branch.md R237). -/
def execBnpb (x : Reg) (yz : Wyde) (s : State) : Result := s.branch .nonpositive .backward x yz

/-- BEV `BEV $X,@+4*YZ`, operation code #4E (46_branch.md R238). -/
def execBev (x : Reg) (yz : Wyde) (s : State) : Result := s.branch .even .forward x yz

/-- BEVB `BEV $X,@+4*YZ-262144`, operation code #4F (46_branch.md R238). -/
def execBevb (x : Reg) (yz : Wyde) (s : State) : Result := s.branch .even .backward x yz

/-- PBN `PBN $X,@+4*YZ`, operation code #50 (46_branch.md R240). -/
def execPbn (x : Reg) (yz : Wyde) (s : State) : Result := s.branch .negative .forward x yz

/-- PBNB `PBN $X,@+4*YZ-262144`, operation code #51 (46_branch.md R240). -/
def execPbnb (x : Reg) (yz : Wyde) (s : State) : Result := s.branch .negative .backward x yz

/-- PBZ `PBZ $X,@+4*YZ`, operation code #52 (46_branch.md R241). -/
def execPbz (x : Reg) (yz : Wyde) (s : State) : Result := s.branch .zero .forward x yz

/-- PBZB `PBZ $X,@+4*YZ-262144`, operation code #53 (46_branch.md R241). -/
def execPbzb (x : Reg) (yz : Wyde) (s : State) : Result := s.branch .zero .backward x yz

/-- PBP `PBP $X,@+4*YZ`, operation code #54 (46_branch.md R242). -/
def execPbp (x : Reg) (yz : Wyde) (s : State) : Result := s.branch .positive .forward x yz

/-- PBPB `PBP $X,@+4*YZ-262144`, operation code #55 (46_branch.md R242). -/
def execPbpb (x : Reg) (yz : Wyde) (s : State) : Result := s.branch .positive .backward x yz

/-- PBOD `PBOD $X,@+4*YZ`, operation code #56 (46_branch.md R243). -/
def execPbod (x : Reg) (yz : Wyde) (s : State) : Result := s.branch .odd .forward x yz

/-- PBODB `PBOD $X,@+4*YZ-262144`, operation code #57 (46_branch.md R243). -/
def execPbodb (x : Reg) (yz : Wyde) (s : State) : Result := s.branch .odd .backward x yz

/-- PBNN `PBNN $X,@+4*YZ`, operation code #58 (46_branch.md R244). -/
def execPbnn (x : Reg) (yz : Wyde) (s : State) : Result := s.branch .nonnegative .forward x yz

/-- PBNNB `PBNN $X,@+4*YZ-262144`, operation code #59 (46_branch.md R244). -/
def execPbnnb (x : Reg) (yz : Wyde) (s : State) : Result := s.branch .nonnegative .backward x yz

/-- PBNZ `PBNZ $X,@+4*YZ`, operation code #5A (46_branch.md R245). -/
def execPbnz (x : Reg) (yz : Wyde) (s : State) : Result := s.branch .nonzero .forward x yz

/-- PBNZB `PBNZ $X,@+4*YZ-262144`, operation code #5B (46_branch.md R245). -/
def execPbnzb (x : Reg) (yz : Wyde) (s : State) : Result := s.branch .nonzero .backward x yz

/-- PBNP `PBNP $X,@+4*YZ`, operation code #5C (46_branch.md R246). -/
def execPbnp (x : Reg) (yz : Wyde) (s : State) : Result := s.branch .nonpositive .forward x yz

/-- PBNPB `PBNP $X,@+4*YZ-262144`, operation code #5D (46_branch.md R246). -/
def execPbnpb (x : Reg) (yz : Wyde) (s : State) : Result := s.branch .nonpositive .backward x yz

/-- PBEV `PBEV $X,@+4*YZ`, operation code #5E (46_branch.md R247). -/
def execPbev (x : Reg) (yz : Wyde) (s : State) : Result := s.branch .even .forward x yz

/-- PBEVB `PBEV $X,@+4*YZ-262144`, operation code #5F (46_branch.md R247). -/
def execPbevb (x : Reg) (yz : Wyde) (s : State) : Result := s.branch .even .backward x yz

end Sys2Proof.Machine
end

