-- ==== Sys2Proof/Machine/Conditional.lean ====
section
/-! DEFINITION. Comparisons and conditional instructions (45_compare_conditional.md). -/

namespace Sys2Proof.Machine

/-- CMP `CMP $X,$Y,$Z`, operation code #30 (45_compare_conditional.md R200). -/
def execCmp (x y z : Reg) (s : State) : Result :=
  s.result x (compareInts (signed (s.reg y)) (signed (s.reg z)))

/-- CMPI `CMP $X,$Y,Z`, operation code #31 (45_compare_conditional.md R200). -/
def execCmpi (x y : Reg) (z : Byte) (s : State) : Result :=
  s.result x (compareInts (signed (s.reg y)) (signed (immediate z)))

/-- CMPU `CMPU $X,$Y,$Z`, operation code #32 (45_compare_conditional.md R201). -/
def execCmpu (x y z : Reg) (s : State) : Result :=
  s.result x (compareInts (s.reg y).toNat (s.reg z).toNat)

/-- CMPUI `CMPU $X,$Y,Z`, operation code #33 (45_compare_conditional.md R201). -/
def execCmpui (x y : Reg) (z : Byte) (s : State) : Result :=
  s.result x (compareInts (s.reg y).toNat (immediate z).toNat)

/-- `if cond_c(x[Y]) then x[X] <- Zop`; "Otherwise nothing happens" (45_compare_conditional.md R203). -/
def State.conditionalSet (s : State) (c : Condition) (x y : Reg) (z : Word) : Result :=
  if conditionHolds c (s.reg y) then s.result x z else .next s.advance

/-- CSN `CSN $X,$Y,$Z`, operation code #60 (45_compare_conditional.md R203). -/
def execCsn (x y z : Reg) (s : State) : Result := s.conditionalSet .negative x y (s.reg z)

/-- CSNI `CSN $X,$Y,Z`, operation code #61 (45_compare_conditional.md R203). -/
def execCsni (x y : Reg) (z : Byte) (s : State) : Result :=
  s.conditionalSet .negative x y (immediate z)

/-- CSZ `CSZ $X,$Y,$Z`, operation code #62 (45_compare_conditional.md R204). -/
def execCsz (x y z : Reg) (s : State) : Result := s.conditionalSet .zero x y (s.reg z)

/-- CSZI `CSZ $X,$Y,Z`, operation code #63 (45_compare_conditional.md R204). -/
def execCszi (x y : Reg) (z : Byte) (s : State) : Result := s.conditionalSet .zero x y (immediate z)

/-- CSP `CSP $X,$Y,$Z`, operation code #64 (45_compare_conditional.md R205). -/
def execCsp (x y z : Reg) (s : State) : Result := s.conditionalSet .positive x y (s.reg z)

/-- CSPI `CSP $X,$Y,Z`, operation code #65 (45_compare_conditional.md R205). -/
def execCspi (x y : Reg) (z : Byte) (s : State) : Result :=
  s.conditionalSet .positive x y (immediate z)

/-- CSOD `CSOD $X,$Y,$Z`, operation code #66 (45_compare_conditional.md R206). -/
def execCsod (x y z : Reg) (s : State) : Result := s.conditionalSet .odd x y (s.reg z)

/-- CSODI `CSOD $X,$Y,Z`, operation code #67 (45_compare_conditional.md R206). -/
def execCsodi (x y : Reg) (z : Byte) (s : State) : Result := s.conditionalSet .odd x y (immediate z)

/-- CSNN `CSNN $X,$Y,$Z`, operation code #68 (45_compare_conditional.md R207). -/
def execCsnn (x y z : Reg) (s : State) : Result := s.conditionalSet .nonnegative x y (s.reg z)

/-- CSNNI `CSNN $X,$Y,Z`, operation code #69 (45_compare_conditional.md R207). -/
def execCsnni (x y : Reg) (z : Byte) (s : State) : Result :=
  s.conditionalSet .nonnegative x y (immediate z)

/-- CSNZ `CSNZ $X,$Y,$Z`, operation code #6A (45_compare_conditional.md R208). -/
def execCsnz (x y z : Reg) (s : State) : Result := s.conditionalSet .nonzero x y (s.reg z)

/-- CSNZI `CSNZ $X,$Y,Z`, operation code #6B (45_compare_conditional.md R208). -/
def execCsnzi (x y : Reg) (z : Byte) (s : State) : Result :=
  s.conditionalSet .nonzero x y (immediate z)

/-- CSNP `CSNP $X,$Y,$Z`, operation code #6C (45_compare_conditional.md R209). -/
def execCsnp (x y z : Reg) (s : State) : Result := s.conditionalSet .nonpositive x y (s.reg z)

/-- CSNPI `CSNP $X,$Y,Z`, operation code #6D (45_compare_conditional.md R209). -/
def execCsnpi (x y : Reg) (z : Byte) (s : State) : Result :=
  s.conditionalSet .nonpositive x y (immediate z)

/-- CSEV `CSEV $X,$Y,$Z`, operation code #6E (45_compare_conditional.md R210). -/
def execCsev (x y z : Reg) (s : State) : Result := s.conditionalSet .even x y (s.reg z)

/-- CSEVI `CSEV $X,$Y,Z`, operation code #6F (45_compare_conditional.md R210). -/
def execCsevi (x y : Reg) (z : Byte) (s : State) : Result :=
  s.conditionalSet .even x y (immediate z)

/-- `x[X] <- if cond_c(x[Y]) then Zop else 0` (45_compare_conditional.md R211). -/
def State.zeroOrSet (s : State) (c : Condition) (x y : Reg) (z : Word) : Result :=
  s.result x (if conditionHolds c (s.reg y) then z else 0)

/-- ZSN `ZSN $X,$Y,$Z`, operation code #70 (45_compare_conditional.md R211). -/
def execZsn (x y z : Reg) (s : State) : Result := s.zeroOrSet .negative x y (s.reg z)

/-- ZSNI `ZSN $X,$Y,Z`, operation code #71 (45_compare_conditional.md R211). -/
def execZsni (x y : Reg) (z : Byte) (s : State) : Result := s.zeroOrSet .negative x y (immediate z)

/-- ZSZ `ZSZ $X,$Y,$Z`, operation code #72 (45_compare_conditional.md R212). -/
def execZsz (x y z : Reg) (s : State) : Result := s.zeroOrSet .zero x y (s.reg z)

/-- ZSZI `ZSZ $X,$Y,Z`, operation code #73 (45_compare_conditional.md R212). -/
def execZszi (x y : Reg) (z : Byte) (s : State) : Result := s.zeroOrSet .zero x y (immediate z)

/-- ZSP `ZSP $X,$Y,$Z`, operation code #74 (45_compare_conditional.md R213). -/
def execZsp (x y z : Reg) (s : State) : Result := s.zeroOrSet .positive x y (s.reg z)

/-- ZSPI `ZSP $X,$Y,Z`, operation code #75 (45_compare_conditional.md R213). -/
def execZspi (x y : Reg) (z : Byte) (s : State) : Result := s.zeroOrSet .positive x y (immediate z)

/-- ZSOD `ZSOD $X,$Y,$Z`, operation code #76 (45_compare_conditional.md R214). -/
def execZsod (x y z : Reg) (s : State) : Result := s.zeroOrSet .odd x y (s.reg z)

/-- ZSODI `ZSOD $X,$Y,Z`, operation code #77 (45_compare_conditional.md R214). -/
def execZsodi (x y : Reg) (z : Byte) (s : State) : Result := s.zeroOrSet .odd x y (immediate z)

/-- ZSNN `ZSNN $X,$Y,$Z`, operation code #78 (45_compare_conditional.md R215). -/
def execZsnn (x y z : Reg) (s : State) : Result := s.zeroOrSet .nonnegative x y (s.reg z)

/-- ZSNNI `ZSNN $X,$Y,Z`, operation code #79 (45_compare_conditional.md R215). -/
def execZsnni (x y : Reg) (z : Byte) (s : State) : Result :=
  s.zeroOrSet .nonnegative x y (immediate z)

/-- ZSNZ `ZSNZ $X,$Y,$Z`, operation code #7A (45_compare_conditional.md R216). -/
def execZsnz (x y z : Reg) (s : State) : Result := s.zeroOrSet .nonzero x y (s.reg z)

/-- ZSNZI `ZSNZ $X,$Y,Z`, operation code #7B (45_compare_conditional.md R216). -/
def execZsnzi (x y : Reg) (z : Byte) (s : State) : Result := s.zeroOrSet .nonzero x y (immediate z)

/-- ZSNP `ZSNP $X,$Y,$Z`, operation code #7C (45_compare_conditional.md R217). -/
def execZsnp (x y z : Reg) (s : State) : Result := s.zeroOrSet .nonpositive x y (s.reg z)

/-- ZSNPI `ZSNP $X,$Y,Z`, operation code #7D (45_compare_conditional.md R217). -/
def execZsnpi (x y : Reg) (z : Byte) (s : State) : Result :=
  s.zeroOrSet .nonpositive x y (immediate z)

/-- ZSEV `ZSEV $X,$Y,$Z`, operation code #7E (45_compare_conditional.md R218). -/
def execZsev (x y z : Reg) (s : State) : Result := s.zeroOrSet .even x y (s.reg z)

/-- ZSEVI `ZSEV $X,$Y,Z`, operation code #7F (45_compare_conditional.md R218). -/
def execZsevi (x y : Reg) (z : Byte) (s : State) : Result := s.zeroOrSet .even x y (immediate z)

end Sys2Proof.Machine
end

