-- ==== Sys2Proof/Machine/LoadStore.lean ====
section
/-! DEFINITION. Loading and storing (40_load_store.md): one definition for each operation code, over
`State.load` and `State.store`. The address is the effective address of R90; both operations align it. -/

namespace Sys2Proof.Machine

/-! ## Loads -/

/-- LDB `LDB $X,$Y,$Z`, operation code #80 (40_load_store.md R91). -/
def execLdb (x y z : Reg) (s : State) : Result :=
  s.load x (effectiveAddress (s.reg y) (s.reg z)) .byte (signExtend 8)

/-- LDBI `LDB $X,$Y,Z`, operation code #81 (40_load_store.md R91). -/
def execLdbi (x y : Reg) (z : Byte) (s : State) : Result :=
  s.load x (effectiveAddress (s.reg y) (immediate z)) .byte (signExtend 8)

/-- LDBU `LDBU $X,$Y,$Z`, operation code #82 (40_load_store.md R92). -/
def execLdbu (x y z : Reg) (s : State) : Result :=
  s.load x (effectiveAddress (s.reg y) (s.reg z)) .byte zeroExtend

/-- LDBUI `LDBU $X,$Y,Z`, operation code #83 (40_load_store.md R92). -/
def execLdbui (x y : Reg) (z : Byte) (s : State) : Result :=
  s.load x (effectiveAddress (s.reg y) (immediate z)) .byte zeroExtend

/-- LDW `LDW $X,$Y,$Z`, operation code #84 (40_load_store.md R93). -/
def execLdw (x y z : Reg) (s : State) : Result :=
  s.load x (effectiveAddress (s.reg y) (s.reg z)) .wyde (signExtend 16)

/-- LDWI `LDW $X,$Y,Z`, operation code #85 (40_load_store.md R93). -/
def execLdwi (x y : Reg) (z : Byte) (s : State) : Result :=
  s.load x (effectiveAddress (s.reg y) (immediate z)) .wyde (signExtend 16)

/-- LDWU `LDWU $X,$Y,$Z`, operation code #86 (40_load_store.md R94). -/
def execLdwu (x y z : Reg) (s : State) : Result :=
  s.load x (effectiveAddress (s.reg y) (s.reg z)) .wyde zeroExtend

/-- LDWUI `LDWU $X,$Y,Z`, operation code #87 (40_load_store.md R94). -/
def execLdwui (x y : Reg) (z : Byte) (s : State) : Result :=
  s.load x (effectiveAddress (s.reg y) (immediate z)) .wyde zeroExtend

/-- LDT `LDT $X,$Y,$Z`, operation code #88 (40_load_store.md R95). -/
def execLdt (x y z : Reg) (s : State) : Result :=
  s.load x (effectiveAddress (s.reg y) (s.reg z)) .tetra (signExtend 32)

/-- LDTI `LDT $X,$Y,Z`, operation code #89 (40_load_store.md R95). -/
def execLdti (x y : Reg) (z : Byte) (s : State) : Result :=
  s.load x (effectiveAddress (s.reg y) (immediate z)) .tetra (signExtend 32)

/-- LDTU `LDTU $X,$Y,$Z`, operation code #8A (40_load_store.md R96). -/
def execLdtu (x y z : Reg) (s : State) : Result :=
  s.load x (effectiveAddress (s.reg y) (s.reg z)) .tetra zeroExtend

/-- LDTUI `LDTU $X,$Y,Z`, operation code #8B (40_load_store.md R96). -/
def execLdtui (x y : Reg) (z : Byte) (s : State) : Result :=
  s.load x (effectiveAddress (s.reg y) (immediate z)) .tetra zeroExtend

/-- LDO `LDO $X,$Y,$Z`, operation code #8C (40_load_store.md R97). -/
def execLdo (x y z : Reg) (s : State) : Result :=
  s.load x (effectiveAddress (s.reg y) (s.reg z)) .octa zeroExtend

/-- LDOI `LDO $X,$Y,Z`, operation code #8D (40_load_store.md R97). -/
def execLdoi (x y : Reg) (z : Byte) (s : State) : Result :=
  s.load x (effectiveAddress (s.reg y) (immediate z)) .octa zeroExtend

/-- LDOU `LDOU $X,$Y,$Z`, operation code #8E (40_load_store.md R98). -/
def execLdou (x y z : Reg) (s : State) : Result :=
  s.load x (effectiveAddress (s.reg y) (s.reg z)) .octa zeroExtend

/-- LDOUI `LDOU $X,$Y,Z`, operation code #8F (40_load_store.md R98). -/
def execLdoui (x y : Reg) (z : Byte) (s : State) : Result :=
  s.load x (effectiveAddress (s.reg y) (immediate z)) .octa zeroExtend

/-- LDHT `LDHT $X,$Y,$Z`, operation code #92 (40_load_store.md R99). -/
def execLdht (x y z : Reg) (s : State) : Result :=
  s.load x (effectiveAddress (s.reg y) (s.reg z)) .tetra highTetra

/-- LDHTI `LDHT $X,$Y,Z`, operation code #93 (40_load_store.md R99). -/
def execLdhti (x y : Reg) (z : Byte) (s : State) : Result :=
  s.load x (effectiveAddress (s.reg y) (immediate z)) .tetra highTetra

/-! ## Stores -/

/-- STB `STB $X,$Y,$Z`, operation code #A0 (40_load_store.md R101). -/
def execStb (x y z : Reg) (s : State) : Result :=
  s.store (effectiveAddress (s.reg y) (s.reg z)) .byte (s.reg x) (exceedsSigned 8 (s.reg x))

/-- STBI `STB $X,$Y,Z`, operation code #A1 (40_load_store.md R101). -/
def execStbi (x y : Reg) (z : Byte) (s : State) : Result :=
  s.store (effectiveAddress (s.reg y) (immediate z)) .byte (s.reg x) (exceedsSigned 8 (s.reg x))

/-- STBU `STBU $X,$Y,$Z`, operation code #A2 (40_load_store.md R102). -/
def execStbu (x y z : Reg) (s : State) : Result :=
  s.store (effectiveAddress (s.reg y) (s.reg z)) .byte (s.reg x) false

/-- STBUI `STBU $X,$Y,Z`, operation code #A3 (40_load_store.md R102). -/
def execStbui (x y : Reg) (z : Byte) (s : State) : Result :=
  s.store (effectiveAddress (s.reg y) (immediate z)) .byte (s.reg x) false

/-- STW `STW $X,$Y,$Z`, operation code #A4 (40_load_store.md R103). -/
def execStw (x y z : Reg) (s : State) : Result :=
  s.store (effectiveAddress (s.reg y) (s.reg z)) .wyde (s.reg x) (exceedsSigned 16 (s.reg x))

/-- STWI `STW $X,$Y,Z`, operation code #A5 (40_load_store.md R103). -/
def execStwi (x y : Reg) (z : Byte) (s : State) : Result :=
  s.store (effectiveAddress (s.reg y) (immediate z)) .wyde (s.reg x) (exceedsSigned 16 (s.reg x))

/-- STWU `STWU $X,$Y,$Z`, operation code #A6 (40_load_store.md R104). -/
def execStwu (x y z : Reg) (s : State) : Result :=
  s.store (effectiveAddress (s.reg y) (s.reg z)) .wyde (s.reg x) false

/-- STWUI `STWU $X,$Y,Z`, operation code #A7 (40_load_store.md R104). -/
def execStwui (x y : Reg) (z : Byte) (s : State) : Result :=
  s.store (effectiveAddress (s.reg y) (immediate z)) .wyde (s.reg x) false

/-- STT `STT $X,$Y,$Z`, operation code #A8 (40_load_store.md R105). -/
def execStt (x y z : Reg) (s : State) : Result :=
  s.store (effectiveAddress (s.reg y) (s.reg z)) .tetra (s.reg x) (exceedsSigned 32 (s.reg x))

/-- STTI `STT $X,$Y,Z`, operation code #A9 (40_load_store.md R105). -/
def execStti (x y : Reg) (z : Byte) (s : State) : Result :=
  s.store (effectiveAddress (s.reg y) (immediate z)) .tetra (s.reg x) (exceedsSigned 32 (s.reg x))

/-- STTU `STTU $X,$Y,$Z`, operation code #AA (40_load_store.md R106). -/
def execSttu (x y z : Reg) (s : State) : Result :=
  s.store (effectiveAddress (s.reg y) (s.reg z)) .tetra (s.reg x) false

/-- STTUI `STTU $X,$Y,Z`, operation code #AB (40_load_store.md R106). -/
def execSttui (x y : Reg) (z : Byte) (s : State) : Result :=
  s.store (effectiveAddress (s.reg y) (immediate z)) .tetra (s.reg x) false

/-- STO `STO $X,$Y,$Z`, operation code #AC (40_load_store.md R107). -/
def execSto (x y z : Reg) (s : State) : Result :=
  s.store (effectiveAddress (s.reg y) (s.reg z)) .octa (s.reg x) false

/-- STOI `STO $X,$Y,Z`, operation code #AD (40_load_store.md R107). -/
def execStoi (x y : Reg) (z : Byte) (s : State) : Result :=
  s.store (effectiveAddress (s.reg y) (immediate z)) .octa (s.reg x) false

/-- STOU `STOU $X,$Y,$Z`, operation code #AE (40_load_store.md R108). -/
def execStou (x y z : Reg) (s : State) : Result :=
  s.store (effectiveAddress (s.reg y) (s.reg z)) .octa (s.reg x) false

/-- STOUI `STOU $X,$Y,Z`, operation code #AF (40_load_store.md R108). -/
def execStoui (x y : Reg) (z : Byte) (s : State) : Result :=
  s.store (effectiveAddress (s.reg y) (immediate z)) .octa (s.reg x) false

/-- STCO `STCO X,$Y,$Z`, operation code #B4 (40_load_store.md R109). -/
def execStco (x : Byte) (y z : Reg) (s : State) : Result :=
  s.store (effectiveAddress (s.reg y) (s.reg z)) .octa (immediate x) false

/-- STCOI `STCO X,$Y,Z`, operation code #B5 (40_load_store.md R109). -/
def execStcoi (x : Byte) (y : Reg) (z : Byte) (s : State) : Result :=
  s.store (effectiveAddress (s.reg y) (immediate z)) .octa (immediate x) false

/-- STHT `STHT $X,$Y,$Z`, operation code #B2 (40_load_store.md R110). -/
def execStht (x y z : Reg) (s : State) : Result :=
  s.store (effectiveAddress (s.reg y) (s.reg z)) .tetra (s.reg x >>> 32) false

/-- STHTI `STHT $X,$Y,Z`, operation code #B3 (40_load_store.md R110). -/
def execSthti (x y : Reg) (z : Byte) (s : State) : Result :=
  s.store (effectiveAddress (s.reg y) (immediate z)) .tetra (s.reg x >>> 32) false

end Sys2Proof.Machine
end

