-- ==== Sys2Proof/Machine/Shift.lean ====
section
/-! DEFINITION. Shifts (44_shift.md). -/

namespace Sys2Proof.Machine

/-- The shift count: the whole unsigned second operand, cut at 64, where all counts behave alike
(44_shift.md R189). -/
def shiftCount (n : Word) : Nat := min n.toNat 64

/-- `t <- s(y) * 2^n; x[X] <- u64(t)`, then IntegerOverflow if t is out of range (44_shift.md R190). -/
def State.shiftLeft (s : State) (x : Reg) (y n : Word) : Result :=
  (s.setReg x (u64 (signed y * 2 ^ shiftCount n))).complete (overflows (signed y * 2 ^ shiftCount n))

/-- `(y * 2^n) mod 2^64` (44_shift.md R191). -/
def shiftedLeftUnsigned (y n : Word) : Word := u64 (y.toNat * 2 ^ shiftCount n)

/-- `u64(floor(s(y) / 2^n))`: division of integers rounds down (44_shift.md R192). -/
def shiftedRight (y n : Word) : Word := u64 (signed y / 2 ^ shiftCount n)

/-- `floor(y / 2^n)` (44_shift.md R193). -/
def shiftedRightUnsigned (y n : Word) : Word := u64 (y.toNat / 2 ^ shiftCount n)

/-- SL `SL $X,$Y,$Z`, operation code #38 (44_shift.md R190). -/
def execSl (x y z : Reg) (s : State) : Result := s.shiftLeft x (s.reg y) (s.reg z)

/-- SLI `SL $X,$Y,Z`, operation code #39 (44_shift.md R190). -/
def execSli (x y : Reg) (z : Byte) (s : State) : Result := s.shiftLeft x (s.reg y) (immediate z)

/-- SLU `SLU $X,$Y,$Z`, operation code #3A (44_shift.md R191). -/
def execSlu (x y z : Reg) (s : State) : Result :=
  s.result x (shiftedLeftUnsigned (s.reg y) (s.reg z))

/-- SLUI `SLU $X,$Y,Z`, operation code #3B (44_shift.md R191). -/
def execSlui (x y : Reg) (z : Byte) (s : State) : Result :=
  s.result x (shiftedLeftUnsigned (s.reg y) (immediate z))

/-- SR `SR $X,$Y,$Z`, operation code #3C (44_shift.md R192). -/
def execSr (x y z : Reg) (s : State) : Result := s.result x (shiftedRight (s.reg y) (s.reg z))

/-- SRI `SR $X,$Y,Z`, operation code #3D (44_shift.md R192). -/
def execSri (x y : Reg) (z : Byte) (s : State) : Result :=
  s.result x (shiftedRight (s.reg y) (immediate z))

/-- SRU `SRU $X,$Y,$Z`, operation code #3E (44_shift.md R193). -/
def execSru (x y z : Reg) (s : State) : Result :=
  s.result x (shiftedRightUnsigned (s.reg y) (s.reg z))

/-- SRUI `SRU $X,$Y,Z`, operation code #3F (44_shift.md R193). -/
def execSrui (x y : Reg) (z : Byte) (s : State) : Result :=
  s.result x (shiftedRightUnsigned (s.reg y) (immediate z))

end Sys2Proof.Machine
end

