-- ==== Sys2Proof/Machine/Unspecified.lean ====
section
/-! DEFINITION. The 74 operation codes that no source defines (30_encoding.md R75): each is refused by its
number and the chart's name, never a no-op, a trap or a guessed meaning. -/

namespace Sys2Proof.Machine

/-- TRAP, operation code #00 (30_encoding.md R75). -/
def execTrap (_ : State) : Result := .refused (.opcodeNotSpecified 0x00 "TRAP")

/-- FCMP, operation code #01 (30_encoding.md R75). -/
def execFcmp (_ : State) : Result := .refused (.opcodeNotSpecified 0x01 "FCMP")

/-- FUN, operation code #02 (30_encoding.md R75). -/
def execFun_ (_ : State) : Result := .refused (.opcodeNotSpecified 0x02 "FUN")

/-- FEQL, operation code #03 (30_encoding.md R75). -/
def execFeql (_ : State) : Result := .refused (.opcodeNotSpecified 0x03 "FEQL")

/-- FADD, operation code #04 (30_encoding.md R75). -/
def execFadd (_ : State) : Result := .refused (.opcodeNotSpecified 0x04 "FADD")

/-- FIX, operation code #05 (30_encoding.md R75). -/
def execFix (_ : State) : Result := .refused (.opcodeNotSpecified 0x05 "FIX")

/-- FSUB, operation code #06 (30_encoding.md R75). -/
def execFsub (_ : State) : Result := .refused (.opcodeNotSpecified 0x06 "FSUB")

/-- FIXU, operation code #07 (30_encoding.md R75). -/
def execFixu (_ : State) : Result := .refused (.opcodeNotSpecified 0x07 "FIXU")

/-- FLOT, operation code #08 (30_encoding.md R75). -/
def execFlot (_ : State) : Result := .refused (.opcodeNotSpecified 0x08 "FLOT")

/-- FLOTI, operation code #09 (30_encoding.md R75). -/
def execFloti (_ : State) : Result := .refused (.opcodeNotSpecified 0x09 "FLOTI")

/-- FLOTU, operation code #0A (30_encoding.md R75). -/
def execFlotu (_ : State) : Result := .refused (.opcodeNotSpecified 0x0A "FLOTU")

/-- FLOTUI, operation code #0B (30_encoding.md R75). -/
def execFlotui (_ : State) : Result := .refused (.opcodeNotSpecified 0x0B "FLOTUI")

/-- SFLOT, operation code #0C (30_encoding.md R75). -/
def execSflot (_ : State) : Result := .refused (.opcodeNotSpecified 0x0C "SFLOT")

/-- SFLOTI, operation code #0D (30_encoding.md R75). -/
def execSfloti (_ : State) : Result := .refused (.opcodeNotSpecified 0x0D "SFLOTI")

/-- SFLOTU, operation code #0E (30_encoding.md R75). -/
def execSflotu (_ : State) : Result := .refused (.opcodeNotSpecified 0x0E "SFLOTU")

/-- SFLOTUI, operation code #0F (30_encoding.md R75). -/
def execSflotui (_ : State) : Result := .refused (.opcodeNotSpecified 0x0F "SFLOTUI")

/-- FMUL, operation code #10 (30_encoding.md R75). -/
def execFmul (_ : State) : Result := .refused (.opcodeNotSpecified 0x10 "FMUL")

/-- FCMPE, operation code #11 (30_encoding.md R75). -/
def execFcmpe (_ : State) : Result := .refused (.opcodeNotSpecified 0x11 "FCMPE")

/-- FUNE, operation code #12 (30_encoding.md R75). -/
def execFune (_ : State) : Result := .refused (.opcodeNotSpecified 0x12 "FUNE")

/-- FEQLE, operation code #13 (30_encoding.md R75). -/
def execFeqle (_ : State) : Result := .refused (.opcodeNotSpecified 0x13 "FEQLE")

/-- FDIV, operation code #14 (30_encoding.md R75). -/
def execFdiv (_ : State) : Result := .refused (.opcodeNotSpecified 0x14 "FDIV")

/-- FSQRT, operation code #15 (30_encoding.md R75). -/
def execFsqrt (_ : State) : Result := .refused (.opcodeNotSpecified 0x15 "FSQRT")

/-- FREM, operation code #16 (30_encoding.md R75). -/
def execFrem (_ : State) : Result := .refused (.opcodeNotSpecified 0x16 "FREM")

/-- FINT, operation code #17 (30_encoding.md R75). -/
def execFint (_ : State) : Result := .refused (.opcodeNotSpecified 0x17 "FINT")

/-- MUL, operation code #18 (30_encoding.md R75). -/
def execMul (_ : State) : Result := .refused (.opcodeNotSpecified 0x18 "MUL")

/-- MULI, operation code #19 (30_encoding.md R75). -/
def execMuli (_ : State) : Result := .refused (.opcodeNotSpecified 0x19 "MULI")

/-- MULU, operation code #1A (30_encoding.md R75). -/
def execMulu (_ : State) : Result := .refused (.opcodeNotSpecified 0x1A "MULU")

/-- MULUI, operation code #1B (30_encoding.md R75). -/
def execMului (_ : State) : Result := .refused (.opcodeNotSpecified 0x1B "MULUI")

/-- DIV, operation code #1C (30_encoding.md R75). -/
def execDiv (_ : State) : Result := .refused (.opcodeNotSpecified 0x1C "DIV")

/-- DIVI, operation code #1D (30_encoding.md R75). -/
def execDivi (_ : State) : Result := .refused (.opcodeNotSpecified 0x1D "DIVI")

/-- DIVU, operation code #1E (30_encoding.md R75). -/
def execDivu (_ : State) : Result := .refused (.opcodeNotSpecified 0x1E "DIVU")

/-- DIVUI, operation code #1F (30_encoding.md R75). -/
def execDivui (_ : State) : Result := .refused (.opcodeNotSpecified 0x1F "DIVUI")

/-- LDSF, operation code #90 (30_encoding.md R75). -/
def execLdsf (_ : State) : Result := .refused (.opcodeNotSpecified 0x90 "LDSF")

/-- LDSFI, operation code #91 (30_encoding.md R75). -/
def execLdsfi (_ : State) : Result := .refused (.opcodeNotSpecified 0x91 "LDSFI")

/-- CSWAP, operation code #94 (30_encoding.md R75). -/
def execCswap (_ : State) : Result := .refused (.opcodeNotSpecified 0x94 "CSWAP")

/-- CSWAPI, operation code #95 (30_encoding.md R75). -/
def execCswapi (_ : State) : Result := .refused (.opcodeNotSpecified 0x95 "CSWAPI")

/-- LDUNC, operation code #96 (30_encoding.md R75). -/
def execLdunc (_ : State) : Result := .refused (.opcodeNotSpecified 0x96 "LDUNC")

/-- LDUNCI, operation code #97 (30_encoding.md R75). -/
def execLdunci (_ : State) : Result := .refused (.opcodeNotSpecified 0x97 "LDUNCI")

/-- LDVTS, operation code #98 (30_encoding.md R75). -/
def execLdvts (_ : State) : Result := .refused (.opcodeNotSpecified 0x98 "LDVTS")

/-- LDVTSI, operation code #99 (30_encoding.md R75). -/
def execLdvtsi (_ : State) : Result := .refused (.opcodeNotSpecified 0x99 "LDVTSI")

/-- PRELD, operation code #9A (30_encoding.md R75). -/
def execPreld (_ : State) : Result := .refused (.opcodeNotSpecified 0x9A "PRELD")

/-- PRELDI, operation code #9B (30_encoding.md R75). -/
def execPreldi (_ : State) : Result := .refused (.opcodeNotSpecified 0x9B "PRELDI")

/-- PREGO, operation code #9C (30_encoding.md R75). -/
def execPrego (_ : State) : Result := .refused (.opcodeNotSpecified 0x9C "PREGO")

/-- PREGOI, operation code #9D (30_encoding.md R75). -/
def execPregoi (_ : State) : Result := .refused (.opcodeNotSpecified 0x9D "PREGOI")

/-- GO, operation code #9E (30_encoding.md R75). -/
def execGo (_ : State) : Result := .refused (.opcodeNotSpecified 0x9E "GO")

/-- GOI, operation code #9F (30_encoding.md R75). -/
def execGoi (_ : State) : Result := .refused (.opcodeNotSpecified 0x9F "GOI")

/-- STSF, operation code #B0 (30_encoding.md R75). -/
def execStsf (_ : State) : Result := .refused (.opcodeNotSpecified 0xB0 "STSF")

/-- STSFI, operation code #B1 (30_encoding.md R75). -/
def execStsfi (_ : State) : Result := .refused (.opcodeNotSpecified 0xB1 "STSFI")

/-- STUNC, operation code #B6 (30_encoding.md R75). -/
def execStunc (_ : State) : Result := .refused (.opcodeNotSpecified 0xB6 "STUNC")

/-- STUNCI, operation code #B7 (30_encoding.md R75). -/
def execStunci (_ : State) : Result := .refused (.opcodeNotSpecified 0xB7 "STUNCI")

/-- SYNCD, operation code #B8 (30_encoding.md R75). -/
def execSyncd (_ : State) : Result := .refused (.opcodeNotSpecified 0xB8 "SYNCD")

/-- SYNCDI, operation code #B9 (30_encoding.md R75). -/
def execSyncdi (_ : State) : Result := .refused (.opcodeNotSpecified 0xB9 "SYNCDI")

/-- PREST, operation code #BA (30_encoding.md R75). -/
def execPrest (_ : State) : Result := .refused (.opcodeNotSpecified 0xBA "PREST")

/-- PRESTI, operation code #BB (30_encoding.md R75). -/
def execPresti (_ : State) : Result := .refused (.opcodeNotSpecified 0xBB "PRESTI")

/-- SYNCID, operation code #BC (30_encoding.md R75). -/
def execSyncid (_ : State) : Result := .refused (.opcodeNotSpecified 0xBC "SYNCID")

/-- SYNCIDI, operation code #BD (30_encoding.md R75). -/
def execSyncidi (_ : State) : Result := .refused (.opcodeNotSpecified 0xBD "SYNCIDI")

/-- PUSHGO, operation code #BE (30_encoding.md R75). -/
def execPushgo (_ : State) : Result := .refused (.opcodeNotSpecified 0xBE "PUSHGO")

/-- PUSHGOI, operation code #BF (30_encoding.md R75). -/
def execPushgoi (_ : State) : Result := .refused (.opcodeNotSpecified 0xBF "PUSHGOI")

/-- JMP, operation code #F0 (30_encoding.md R75). -/
def execJmp (_ : State) : Result := .refused (.opcodeNotSpecified 0xF0 "JMP")

/-- JMPB, operation code #F1 (30_encoding.md R75). -/
def execJmpb (_ : State) : Result := .refused (.opcodeNotSpecified 0xF1 "JMPB")

/-- PUSHJ, operation code #F2 (30_encoding.md R75). -/
def execPushj (_ : State) : Result := .refused (.opcodeNotSpecified 0xF2 "PUSHJ")

/-- PUSHJB, operation code #F3 (30_encoding.md R75). -/
def execPushjb (_ : State) : Result := .refused (.opcodeNotSpecified 0xF3 "PUSHJB")

/-- GETA, operation code #F4 (30_encoding.md R75). -/
def execGeta (_ : State) : Result := .refused (.opcodeNotSpecified 0xF4 "GETA")

/-- GETAB, operation code #F5 (30_encoding.md R75). -/
def execGetab (_ : State) : Result := .refused (.opcodeNotSpecified 0xF5 "GETAB")

/-- PUT, operation code #F6 (30_encoding.md R75). -/
def execPut (_ : State) : Result := .refused (.opcodeNotSpecified 0xF6 "PUT")

/-- PUTI, operation code #F7 (30_encoding.md R75). -/
def execPuti (_ : State) : Result := .refused (.opcodeNotSpecified 0xF7 "PUTI")

/-- POP, operation code #F8 (30_encoding.md R75). -/
def execPop (_ : State) : Result := .refused (.opcodeNotSpecified 0xF8 "POP")

/-- RESUME, operation code #F9 (30_encoding.md R75). -/
def execResume (_ : State) : Result := .refused (.opcodeNotSpecified 0xF9 "RESUME")

/-- SAVE, operation code #FA (30_encoding.md R75). -/
def execSave (_ : State) : Result := .refused (.opcodeNotSpecified 0xFA "SAVE")

/-- UNSAVE, operation code #FB (30_encoding.md R75). -/
def execUnsave (_ : State) : Result := .refused (.opcodeNotSpecified 0xFB "UNSAVE")

/-- SYNC, operation code #FC (30_encoding.md R75). -/
def execSync (_ : State) : Result := .refused (.opcodeNotSpecified 0xFC "SYNC")

/-- SWYM, operation code #FD (30_encoding.md R75). -/
def execSwym (_ : State) : Result := .refused (.opcodeNotSpecified 0xFD "SWYM")

/-- GET, operation code #FE (30_encoding.md R75). -/
def execGet (_ : State) : Result := .refused (.opcodeNotSpecified 0xFE "GET")

/-- TRIP, operation code #FF (30_encoding.md R75). -/
def execTrip (_ : State) : Result := .refused (.opcodeNotSpecified 0xFF "TRIP")

end Sys2Proof.Machine
end

