-- ==== Sys2Proof/Machine/WydeImmediate.lean ====
section
/-! DEFINITION. The sixteen wyde-immediate instructions (43_wyde_immediate.md R170): `W = YZ * 2^shift` is set,
added without an overflow test, ored, or complemented and anded. -/

namespace Sys2Proof.Machine

/-- SETH `SETH $X,YZ`, operation code #E0 (43_wyde_immediate.md R171). -/
def execSeth (x : Reg) (yz : Wyde) (s : State) : Result := s.result x (wydeOperand .high yz)

/-- SETMH `SETMH $X,YZ`, operation code #E1 (43_wyde_immediate.md R172). -/
def execSetmh (x : Reg) (yz : Wyde) (s : State) : Result := s.result x (wydeOperand .mediumHigh yz)

/-- SETML `SETML $X,YZ`, operation code #E2 (43_wyde_immediate.md R173). -/
def execSetml (x : Reg) (yz : Wyde) (s : State) : Result := s.result x (wydeOperand .mediumLow yz)

/-- SETL `SETL $X,YZ`, operation code #E3 (43_wyde_immediate.md R174). -/
def execSetl (x : Reg) (yz : Wyde) (s : State) : Result := s.result x (wydeOperand .low yz)

/-- INCH `INCH $X,YZ`, operation code #E4 (43_wyde_immediate.md R175). -/
def execInch (x : Reg) (yz : Wyde) (s : State) : Result :=
  s.result x (s.reg x + wydeOperand .high yz)

/-- INCMH `INCMH $X,YZ`, operation code #E5 (43_wyde_immediate.md R176). -/
def execIncmh (x : Reg) (yz : Wyde) (s : State) : Result :=
  s.result x (s.reg x + wydeOperand .mediumHigh yz)

/-- INCML `INCML $X,YZ`, operation code #E6 (43_wyde_immediate.md R177). -/
def execIncml (x : Reg) (yz : Wyde) (s : State) : Result :=
  s.result x (s.reg x + wydeOperand .mediumLow yz)

/-- INCL `INCL $X,YZ`, operation code #E7 (43_wyde_immediate.md R178). -/
def execIncl (x : Reg) (yz : Wyde) (s : State) : Result :=
  s.result x (s.reg x + wydeOperand .low yz)

/-- ORH `ORH $X,YZ`, operation code #E8 (43_wyde_immediate.md R179). -/
def execOrh (x : Reg) (yz : Wyde) (s : State) : Result :=
  s.result x (s.reg x ||| wydeOperand .high yz)

/-- ORMH `ORMH $X,YZ`, operation code #E9 (43_wyde_immediate.md R180). -/
def execOrmh (x : Reg) (yz : Wyde) (s : State) : Result :=
  s.result x (s.reg x ||| wydeOperand .mediumHigh yz)

/-- ORML `ORML $X,YZ`, operation code #EA (43_wyde_immediate.md R181). -/
def execOrml (x : Reg) (yz : Wyde) (s : State) : Result :=
  s.result x (s.reg x ||| wydeOperand .mediumLow yz)

/-- ORL `ORL $X,YZ`, operation code #EB (43_wyde_immediate.md R182). -/
def execOrl (x : Reg) (yz : Wyde) (s : State) : Result :=
  s.result x (s.reg x ||| wydeOperand .low yz)

/-- ANDNH `ANDNH $X,YZ`, operation code #EC (43_wyde_immediate.md R183). -/
def execAndnh (x : Reg) (yz : Wyde) (s : State) : Result :=
  s.result x (s.reg x &&& ~~~(wydeOperand .high yz))

/-- ANDNMH `ANDNMH $X,YZ`, operation code #ED (43_wyde_immediate.md R184). -/
def execAndnmh (x : Reg) (yz : Wyde) (s : State) : Result :=
  s.result x (s.reg x &&& ~~~(wydeOperand .mediumHigh yz))

/-- ANDNML `ANDNML $X,YZ`, operation code #EE (43_wyde_immediate.md R185). -/
def execAndnml (x : Reg) (yz : Wyde) (s : State) : Result :=
  s.result x (s.reg x &&& ~~~(wydeOperand .mediumLow yz))

/-- ANDNL `ANDNL $X,YZ`, operation code #EF (43_wyde_immediate.md R186). -/
def execAndnl (x : Reg) (yz : Wyde) (s : State) : Result :=
  s.result x (s.reg x &&& ~~~(wydeOperand .low yz))

end Sys2Proof.Machine
end

