-- ==== Sys2Proof/Syntax.lean ====
section
/-! DEFINITION. The syntax of MMIX: one constructor for each of the 256 rows of
spec/opcode_table.json (30_encoding.md R71). The name is the row's mnemonic in small letters; a name
that begins with a digit has it moved to the end (2ADDU is `addu2`), and FUN is `fun_`.

The operands follow the row's `format` (30_encoding.md R61): a `Reg` is a register number, a `Byte`
an unsigned 8-bit constant, a `Wyde` the 16-bit field YZ. The 74 rows that the spec leaves out of
scope (R75) come last and have no operand: the table gives them no format, and no source says what
their bytes X, Y, Z are (DESIGN CHOICE, log 27). -/

namespace Sys2Proof

/-- An MMIX instruction, 30_encoding.md R61 and R71. -/
inductive Instr where
  | add (x y z : Reg)  -- #20 ADD $X,$Y,$Z (R120)
  | addi (x y : Reg) (z : Byte)  -- #21 ADDI $X,$Y,Z (R120)
  | addu (x y z : Reg)  -- #22 ADDU $X,$Y,$Z (R121)
  | addui (x y : Reg) (z : Byte)  -- #23 ADDUI $X,$Y,Z (R121)
  | sub (x y z : Reg)  -- #24 SUB $X,$Y,$Z (R126)
  | subi (x y : Reg) (z : Byte)  -- #25 SUBI $X,$Y,Z (R126)
  | subu (x y z : Reg)  -- #26 SUBU $X,$Y,$Z (R127)
  | subui (x y : Reg) (z : Byte)  -- #27 SUBUI $X,$Y,Z (R127)
  | addu2 (x y z : Reg)  -- #28 2ADDU $X,$Y,$Z (R122)
  | addu2i (x y : Reg) (z : Byte)  -- #29 2ADDUI $X,$Y,Z (R122)
  | addu4 (x y z : Reg)  -- #2A 4ADDU $X,$Y,$Z (R123)
  | addu4i (x y : Reg) (z : Byte)  -- #2B 4ADDUI $X,$Y,Z (R123)
  | addu8 (x y z : Reg)  -- #2C 8ADDU $X,$Y,$Z (R124)
  | addu8i (x y : Reg) (z : Byte)  -- #2D 8ADDUI $X,$Y,Z (R124)
  | addu16 (x y z : Reg)  -- #2E 16ADDU $X,$Y,$Z (R125)
  | addu16i (x y : Reg) (z : Byte)  -- #2F 16ADDUI $X,$Y,Z (R125)
  | cmp (x y z : Reg)  -- #30 CMP $X,$Y,$Z (R200)
  | cmpi (x y : Reg) (z : Byte)  -- #31 CMPI $X,$Y,Z (R200)
  | cmpu (x y z : Reg)  -- #32 CMPU $X,$Y,$Z (R201)
  | cmpui (x y : Reg) (z : Byte)  -- #33 CMPUI $X,$Y,Z (R201)
  | neg (x : Reg) (y : Byte) (z : Reg)  -- #34 NEG $X,Y,$Z (R128)
  | negi (x : Reg) (y z : Byte)  -- #35 NEGI $X,Y,Z (R128)
  | negu (x : Reg) (y : Byte) (z : Reg)  -- #36 NEGU $X,Y,$Z (R129)
  | negui (x : Reg) (y z : Byte)  -- #37 NEGUI $X,Y,Z (R129)
  | sl (x y z : Reg)  -- #38 SL $X,$Y,$Z (R190)
  | sli (x y : Reg) (z : Byte)  -- #39 SLI $X,$Y,Z (R190)
  | slu (x y z : Reg)  -- #3A SLU $X,$Y,$Z (R191)
  | slui (x y : Reg) (z : Byte)  -- #3B SLUI $X,$Y,Z (R191)
  | sr (x y z : Reg)  -- #3C SR $X,$Y,$Z (R192)
  | sri (x y : Reg) (z : Byte)  -- #3D SRI $X,$Y,Z (R192)
  | sru (x y z : Reg)  -- #3E SRU $X,$Y,$Z (R193)
  | srui (x y : Reg) (z : Byte)  -- #3F SRUI $X,$Y,Z (R193)
  | bn (x : Reg) (yz : Wyde)  -- #40 BN $X,@+4*YZ (R231)
  | bnb (x : Reg) (yz : Wyde)  -- #41 BNB $X,@+4*YZ-262144 (R231)
  | bz (x : Reg) (yz : Wyde)  -- #42 BZ $X,@+4*YZ (R232)
  | bzb (x : Reg) (yz : Wyde)  -- #43 BZB $X,@+4*YZ-262144 (R232)
  | bp (x : Reg) (yz : Wyde)  -- #44 BP $X,@+4*YZ (R233)
  | bpb (x : Reg) (yz : Wyde)  -- #45 BPB $X,@+4*YZ-262144 (R233)
  | bod (x : Reg) (yz : Wyde)  -- #46 BOD $X,@+4*YZ (R234)
  | bodb (x : Reg) (yz : Wyde)  -- #47 BODB $X,@+4*YZ-262144 (R234)
  | bnn (x : Reg) (yz : Wyde)  -- #48 BNN $X,@+4*YZ (R235)
  | bnnb (x : Reg) (yz : Wyde)  -- #49 BNNB $X,@+4*YZ-262144 (R235)
  | bnz (x : Reg) (yz : Wyde)  -- #4A BNZ $X,@+4*YZ (R236)
  | bnzb (x : Reg) (yz : Wyde)  -- #4B BNZB $X,@+4*YZ-262144 (R236)
  | bnp (x : Reg) (yz : Wyde)  -- #4C BNP $X,@+4*YZ (R237)
  | bnpb (x : Reg) (yz : Wyde)  -- #4D BNPB $X,@+4*YZ-262144 (R237)
  | bev (x : Reg) (yz : Wyde)  -- #4E BEV $X,@+4*YZ (R238)
  | bevb (x : Reg) (yz : Wyde)  -- #4F BEVB $X,@+4*YZ-262144 (R238)
  | pbn (x : Reg) (yz : Wyde)  -- #50 PBN $X,@+4*YZ (R240)
  | pbnb (x : Reg) (yz : Wyde)  -- #51 PBNB $X,@+4*YZ-262144 (R240)
  | pbz (x : Reg) (yz : Wyde)  -- #52 PBZ $X,@+4*YZ (R241)
  | pbzb (x : Reg) (yz : Wyde)  -- #53 PBZB $X,@+4*YZ-262144 (R241)
  | pbp (x : Reg) (yz : Wyde)  -- #54 PBP $X,@+4*YZ (R242)
  | pbpb (x : Reg) (yz : Wyde)  -- #55 PBPB $X,@+4*YZ-262144 (R242)
  | pbod (x : Reg) (yz : Wyde)  -- #56 PBOD $X,@+4*YZ (R243)
  | pbodb (x : Reg) (yz : Wyde)  -- #57 PBODB $X,@+4*YZ-262144 (R243)
  | pbnn (x : Reg) (yz : Wyde)  -- #58 PBNN $X,@+4*YZ (R244)
  | pbnnb (x : Reg) (yz : Wyde)  -- #59 PBNNB $X,@+4*YZ-262144 (R244)
  | pbnz (x : Reg) (yz : Wyde)  -- #5A PBNZ $X,@+4*YZ (R245)
  | pbnzb (x : Reg) (yz : Wyde)  -- #5B PBNZB $X,@+4*YZ-262144 (R245)
  | pbnp (x : Reg) (yz : Wyde)  -- #5C PBNP $X,@+4*YZ (R246)
  | pbnpb (x : Reg) (yz : Wyde)  -- #5D PBNPB $X,@+4*YZ-262144 (R246)
  | pbev (x : Reg) (yz : Wyde)  -- #5E PBEV $X,@+4*YZ (R247)
  | pbevb (x : Reg) (yz : Wyde)  -- #5F PBEVB $X,@+4*YZ-262144 (R247)
  | csn (x y z : Reg)  -- #60 CSN $X,$Y,$Z (R203)
  | csni (x y : Reg) (z : Byte)  -- #61 CSNI $X,$Y,Z (R203)
  | csz (x y z : Reg)  -- #62 CSZ $X,$Y,$Z (R204)
  | cszi (x y : Reg) (z : Byte)  -- #63 CSZI $X,$Y,Z (R204)
  | csp (x y z : Reg)  -- #64 CSP $X,$Y,$Z (R205)
  | cspi (x y : Reg) (z : Byte)  -- #65 CSPI $X,$Y,Z (R205)
  | csod (x y z : Reg)  -- #66 CSOD $X,$Y,$Z (R206)
  | csodi (x y : Reg) (z : Byte)  -- #67 CSODI $X,$Y,Z (R206)
  | csnn (x y z : Reg)  -- #68 CSNN $X,$Y,$Z (R207)
  | csnni (x y : Reg) (z : Byte)  -- #69 CSNNI $X,$Y,Z (R207)
  | csnz (x y z : Reg)  -- #6A CSNZ $X,$Y,$Z (R208)
  | csnzi (x y : Reg) (z : Byte)  -- #6B CSNZI $X,$Y,Z (R208)
  | csnp (x y z : Reg)  -- #6C CSNP $X,$Y,$Z (R209)
  | csnpi (x y : Reg) (z : Byte)  -- #6D CSNPI $X,$Y,Z (R209)
  | csev (x y z : Reg)  -- #6E CSEV $X,$Y,$Z (R210)
  | csevi (x y : Reg) (z : Byte)  -- #6F CSEVI $X,$Y,Z (R210)
  | zsn (x y z : Reg)  -- #70 ZSN $X,$Y,$Z (R211)
  | zsni (x y : Reg) (z : Byte)  -- #71 ZSNI $X,$Y,Z (R211)
  | zsz (x y z : Reg)  -- #72 ZSZ $X,$Y,$Z (R212)
  | zszi (x y : Reg) (z : Byte)  -- #73 ZSZI $X,$Y,Z (R212)
  | zsp (x y z : Reg)  -- #74 ZSP $X,$Y,$Z (R213)
  | zspi (x y : Reg) (z : Byte)  -- #75 ZSPI $X,$Y,Z (R213)
  | zsod (x y z : Reg)  -- #76 ZSOD $X,$Y,$Z (R214)
  | zsodi (x y : Reg) (z : Byte)  -- #77 ZSODI $X,$Y,Z (R214)
  | zsnn (x y z : Reg)  -- #78 ZSNN $X,$Y,$Z (R215)
  | zsnni (x y : Reg) (z : Byte)  -- #79 ZSNNI $X,$Y,Z (R215)
  | zsnz (x y z : Reg)  -- #7A ZSNZ $X,$Y,$Z (R216)
  | zsnzi (x y : Reg) (z : Byte)  -- #7B ZSNZI $X,$Y,Z (R216)
  | zsnp (x y z : Reg)  -- #7C ZSNP $X,$Y,$Z (R217)
  | zsnpi (x y : Reg) (z : Byte)  -- #7D ZSNPI $X,$Y,Z (R217)
  | zsev (x y z : Reg)  -- #7E ZSEV $X,$Y,$Z (R218)
  | zsevi (x y : Reg) (z : Byte)  -- #7F ZSEVI $X,$Y,Z (R218)
  | ldb (x y z : Reg)  -- #80 LDB $X,$Y,$Z (R91)
  | ldbi (x y : Reg) (z : Byte)  -- #81 LDBI $X,$Y,Z (R91)
  | ldbu (x y z : Reg)  -- #82 LDBU $X,$Y,$Z (R92)
  | ldbui (x y : Reg) (z : Byte)  -- #83 LDBUI $X,$Y,Z (R92)
  | ldw (x y z : Reg)  -- #84 LDW $X,$Y,$Z (R93)
  | ldwi (x y : Reg) (z : Byte)  -- #85 LDWI $X,$Y,Z (R93)
  | ldwu (x y z : Reg)  -- #86 LDWU $X,$Y,$Z (R94)
  | ldwui (x y : Reg) (z : Byte)  -- #87 LDWUI $X,$Y,Z (R94)
  | ldt (x y z : Reg)  -- #88 LDT $X,$Y,$Z (R95)
  | ldti (x y : Reg) (z : Byte)  -- #89 LDTI $X,$Y,Z (R95)
  | ldtu (x y z : Reg)  -- #8A LDTU $X,$Y,$Z (R96)
  | ldtui (x y : Reg) (z : Byte)  -- #8B LDTUI $X,$Y,Z (R96)
  | ldo (x y z : Reg)  -- #8C LDO $X,$Y,$Z (R97)
  | ldoi (x y : Reg) (z : Byte)  -- #8D LDOI $X,$Y,Z (R97)
  | ldou (x y z : Reg)  -- #8E LDOU $X,$Y,$Z (R98)
  | ldoui (x y : Reg) (z : Byte)  -- #8F LDOUI $X,$Y,Z (R98)
  | ldht (x y z : Reg)  -- #92 LDHT $X,$Y,$Z (R99)
  | ldhti (x y : Reg) (z : Byte)  -- #93 LDHTI $X,$Y,Z (R99)
  | stb (x y z : Reg)  -- #A0 STB $X,$Y,$Z (R101)
  | stbi (x y : Reg) (z : Byte)  -- #A1 STBI $X,$Y,Z (R101)
  | stbu (x y z : Reg)  -- #A2 STBU $X,$Y,$Z (R102)
  | stbui (x y : Reg) (z : Byte)  -- #A3 STBUI $X,$Y,Z (R102)
  | stw (x y z : Reg)  -- #A4 STW $X,$Y,$Z (R103)
  | stwi (x y : Reg) (z : Byte)  -- #A5 STWI $X,$Y,Z (R103)
  | stwu (x y z : Reg)  -- #A6 STWU $X,$Y,$Z (R104)
  | stwui (x y : Reg) (z : Byte)  -- #A7 STWUI $X,$Y,Z (R104)
  | stt (x y z : Reg)  -- #A8 STT $X,$Y,$Z (R105)
  | stti (x y : Reg) (z : Byte)  -- #A9 STTI $X,$Y,Z (R105)
  | sttu (x y z : Reg)  -- #AA STTU $X,$Y,$Z (R106)
  | sttui (x y : Reg) (z : Byte)  -- #AB STTUI $X,$Y,Z (R106)
  | sto (x y z : Reg)  -- #AC STO $X,$Y,$Z (R107)
  | stoi (x y : Reg) (z : Byte)  -- #AD STOI $X,$Y,Z (R107)
  | stou (x y z : Reg)  -- #AE STOU $X,$Y,$Z (R108)
  | stoui (x y : Reg) (z : Byte)  -- #AF STOUI $X,$Y,Z (R108)
  | stht (x y z : Reg)  -- #B2 STHT $X,$Y,$Z (R110)
  | sthti (x y : Reg) (z : Byte)  -- #B3 STHTI $X,$Y,Z (R110)
  | stco (x : Byte) (y z : Reg)  -- #B4 STCO X,$Y,$Z (R109)
  | stcoi (x : Byte) (y : Reg) (z : Byte)  -- #B5 STCOI X,$Y,Z (R109)
  | or (x y z : Reg)  -- #C0 OR $X,$Y,$Z (R141)
  | ori (x y : Reg) (z : Byte)  -- #C1 ORI $X,$Y,Z (R141)
  | orn (x y z : Reg)  -- #C2 ORN $X,$Y,$Z (R144)
  | orni (x y : Reg) (z : Byte)  -- #C3 ORNI $X,$Y,Z (R144)
  | nor (x y z : Reg)  -- #C4 NOR $X,$Y,$Z (R146)
  | nori (x y : Reg) (z : Byte)  -- #C5 NORI $X,$Y,Z (R146)
  | xor (x y z : Reg)  -- #C6 XOR $X,$Y,$Z (R142)
  | xori (x y : Reg) (z : Byte)  -- #C7 XORI $X,$Y,Z (R142)
  | and (x y z : Reg)  -- #C8 AND $X,$Y,$Z (R140)
  | andi (x y : Reg) (z : Byte)  -- #C9 ANDI $X,$Y,Z (R140)
  | andn (x y z : Reg)  -- #CA ANDN $X,$Y,$Z (R143)
  | andni (x y : Reg) (z : Byte)  -- #CB ANDNI $X,$Y,Z (R143)
  | nand (x y z : Reg)  -- #CC NAND $X,$Y,$Z (R145)
  | nandi (x y : Reg) (z : Byte)  -- #CD NANDI $X,$Y,Z (R145)
  | nxor (x y z : Reg)  -- #CE NXOR $X,$Y,$Z (R147)
  | nxori (x y : Reg) (z : Byte)  -- #CF NXORI $X,$Y,Z (R147)
  | bdif (x y z : Reg)  -- #D0 BDIF $X,$Y,$Z (R150)
  | bdifi (x y : Reg) (z : Byte)  -- #D1 BDIFI $X,$Y,Z (R150)
  | wdif (x y z : Reg)  -- #D2 WDIF $X,$Y,$Z (R151)
  | wdifi (x y : Reg) (z : Byte)  -- #D3 WDIFI $X,$Y,Z (R151)
  | tdif (x y z : Reg)  -- #D4 TDIF $X,$Y,$Z (R152)
  | tdifi (x y : Reg) (z : Byte)  -- #D5 TDIFI $X,$Y,Z (R152)
  | odif (x y z : Reg)  -- #D6 ODIF $X,$Y,$Z (R153)
  | odifi (x y : Reg) (z : Byte)  -- #D7 ODIFI $X,$Y,Z (R153)
  | mux (x y z : Reg)  -- #D8 MUX $X,$Y,$Z (R148)
  | muxi (x y : Reg) (z : Byte)  -- #D9 MUXI $X,$Y,Z (R148)
  | sadd (x y z : Reg)  -- #DA SADD $X,$Y,$Z (R155)
  | saddi (x y : Reg) (z : Byte)  -- #DB SADDI $X,$Y,Z (R155)
  | mor (x y z : Reg)  -- #DC MOR $X,$Y,$Z (R157)
  | mori (x y : Reg) (z : Byte)  -- #DD MORI $X,$Y,Z (R157)
  | mxor (x y z : Reg)  -- #DE MXOR $X,$Y,$Z (R158)
  | mxori (x y : Reg) (z : Byte)  -- #DF MXORI $X,$Y,Z (R158)
  | seth (x : Reg) (yz : Wyde)  -- #E0 SETH $X,YZ (R171)
  | setmh (x : Reg) (yz : Wyde)  -- #E1 SETMH $X,YZ (R172)
  | setml (x : Reg) (yz : Wyde)  -- #E2 SETML $X,YZ (R173)
  | setl (x : Reg) (yz : Wyde)  -- #E3 SETL $X,YZ (R174)
  | inch (x : Reg) (yz : Wyde)  -- #E4 INCH $X,YZ (R175)
  | incmh (x : Reg) (yz : Wyde)  -- #E5 INCMH $X,YZ (R176)
  | incml (x : Reg) (yz : Wyde)  -- #E6 INCML $X,YZ (R177)
  | incl (x : Reg) (yz : Wyde)  -- #E7 INCL $X,YZ (R178)
  | orh (x : Reg) (yz : Wyde)  -- #E8 ORH $X,YZ (R179)
  | ormh (x : Reg) (yz : Wyde)  -- #E9 ORMH $X,YZ (R180)
  | orml (x : Reg) (yz : Wyde)  -- #EA ORML $X,YZ (R181)
  | orl (x : Reg) (yz : Wyde)  -- #EB ORL $X,YZ (R182)
  | andnh (x : Reg) (yz : Wyde)  -- #EC ANDNH $X,YZ (R183)
  | andnmh (x : Reg) (yz : Wyde)  -- #ED ANDNMH $X,YZ (R184)
  | andnml (x : Reg) (yz : Wyde)  -- #EE ANDNML $X,YZ (R185)
  | andnl (x : Reg) (yz : Wyde)  -- #EF ANDNL $X,YZ (R186)
  -- The codes that no source defines (R75).
  | trap  -- #00 TRAP not specified (R75)
  | fcmp  -- #01 FCMP not specified (R75)
  | fun_  -- #02 FUN not specified (R75)
  | feql  -- #03 FEQL not specified (R75)
  | fadd  -- #04 FADD not specified (R75)
  | fix  -- #05 FIX not specified (R75)
  | fsub  -- #06 FSUB not specified (R75)
  | fixu  -- #07 FIXU not specified (R75)
  | flot  -- #08 FLOT not specified (R75)
  | floti  -- #09 FLOTI not specified (R75)
  | flotu  -- #0A FLOTU not specified (R75)
  | flotui  -- #0B FLOTUI not specified (R75)
  | sflot  -- #0C SFLOT not specified (R75)
  | sfloti  -- #0D SFLOTI not specified (R75)
  | sflotu  -- #0E SFLOTU not specified (R75)
  | sflotui  -- #0F SFLOTUI not specified (R75)
  | fmul  -- #10 FMUL not specified (R75)
  | fcmpe  -- #11 FCMPE not specified (R75)
  | fune  -- #12 FUNE not specified (R75)
  | feqle  -- #13 FEQLE not specified (R75)
  | fdiv  -- #14 FDIV not specified (R75)
  | fsqrt  -- #15 FSQRT not specified (R75)
  | frem  -- #16 FREM not specified (R75)
  | fint  -- #17 FINT not specified (R75)
  | mul  -- #18 MUL not specified (R75)
  | muli  -- #19 MULI not specified (R75)
  | mulu  -- #1A MULU not specified (R75)
  | mului  -- #1B MULUI not specified (R75)
  | div  -- #1C DIV not specified (R75)
  | divi  -- #1D DIVI not specified (R75)
  | divu  -- #1E DIVU not specified (R75)
  | divui  -- #1F DIVUI not specified (R75)
  | ldsf  -- #90 LDSF not specified (R75)
  | ldsfi  -- #91 LDSFI not specified (R75)
  | cswap  -- #94 CSWAP not specified (R75)
  | cswapi  -- #95 CSWAPI not specified (R75)
  | ldunc  -- #96 LDUNC not specified (R75)
  | ldunci  -- #97 LDUNCI not specified (R75)
  | ldvts  -- #98 LDVTS not specified (R75)
  | ldvtsi  -- #99 LDVTSI not specified (R75)
  | preld  -- #9A PRELD not specified (R75)
  | preldi  -- #9B PRELDI not specified (R75)
  | prego  -- #9C PREGO not specified (R75)
  | pregoi  -- #9D PREGOI not specified (R75)
  | go  -- #9E GO not specified (R75)
  | goi  -- #9F GOI not specified (R75)
  | stsf  -- #B0 STSF not specified (R75)
  | stsfi  -- #B1 STSFI not specified (R75)
  | stunc  -- #B6 STUNC not specified (R75)
  | stunci  -- #B7 STUNCI not specified (R75)
  | syncd  -- #B8 SYNCD not specified (R75)
  | syncdi  -- #B9 SYNCDI not specified (R75)
  | prest  -- #BA PREST not specified (R75)
  | presti  -- #BB PRESTI not specified (R75)
  | syncid  -- #BC SYNCID not specified (R75)
  | syncidi  -- #BD SYNCIDI not specified (R75)
  | pushgo  -- #BE PUSHGO not specified (R75)
  | pushgoi  -- #BF PUSHGOI not specified (R75)
  | jmp  -- #F0 JMP not specified (R75)
  | jmpb  -- #F1 JMPB not specified (R75)
  | pushj  -- #F2 PUSHJ not specified (R75)
  | pushjb  -- #F3 PUSHJB not specified (R75)
  | geta  -- #F4 GETA not specified (R75)
  | getab  -- #F5 GETAB not specified (R75)
  | put  -- #F6 PUT not specified (R75)
  | puti  -- #F7 PUTI not specified (R75)
  | pop  -- #F8 POP not specified (R75)
  | resume  -- #F9 RESUME not specified (R75)
  | save  -- #FA SAVE not specified (R75)
  | unsave  -- #FB UNSAVE not specified (R75)
  | sync  -- #FC SYNC not specified (R75)
  | swym  -- #FD SWYM not specified (R75)
  | get  -- #FE GET not specified (R75)
  | trip  -- #FF TRIP not specified (R75)
deriving DecidableEq, Repr

end Sys2Proof
end

