-- ==== Sys2Proof/Decode.lean ====
section
/-! DEFINITION. The decoder, the encoder and the assembler's spelling of MMIX (30_encoding.md).

The numbers of the operation codes are those of the chart of 30_encoding.md R71. All but 32 and 33
are PRESUMED: the spec itself takes them from general knowledge (R70, log 13). -/

namespace Sys2Proof

/-! ## The fields of an instruction (30_encoding.md R60) -/

/-- The OP byte, bits 31:24. -/
def opByte (t : Tetra) : Byte := t.extractLsb' 24 8

/-- The X byte, bits 23:16. -/
def xByte (t : Tetra) : Byte := t.extractLsb' 16 8

/-- The Y byte, bits 15:8. -/
def yByte (t : Tetra) : Byte := t.extractLsb' 8 8

/-- The Z byte, bits 7:0. -/
def zByte (t : Tetra) : Byte := t.extractLsb' 0 8

/-- The tetrabyte OP * 2^24 + X * 2^16 + Y * 2^8 + Z (20_memory.md R41). -/
def tetraOfFields (op x y z : Byte) : Tetra := op ++ x ++ y ++ z

/-- The four bytes of a tetrabyte as memory holds them, the most significant at the lowest address
(20_memory.md R41). -/
def tetraBytes (t : Tetra) : List Byte := [opByte t, xByte t, yByte t, zByte t]

/-- The register that a byte names (10_state.md R20). -/
def regOf (b : Byte) : Reg := b.toFin

/-- The byte that names a register. -/
def byteOf (r : Reg) : Byte := BitVec.ofFin r

/-- The high byte of a wyde: the Y field of YZ (30_encoding.md R61). -/
def highByte (yz : Wyde) : Byte := yz.extractLsb' 8 8

/-- The low byte of a wyde: the Z field of YZ (30_encoding.md R61). -/
def lowByte (yz : Wyde) : Byte := yz.extractLsb' 0 8

/-! ## Decoding (30_encoding.md R71, R72)

One definition for each row of the chart: eight consecutive operation codes. -/

/-- The operation codes #00 to #07 (30_encoding.md R71). -/
def decodeRow00 (column : Fin 8) (_ _ _ : Byte) : Instr :=
  match column with
  | 0 => .trap
  | 1 => .fcmp
  | 2 => .fun_
  | 3 => .feql
  | 4 => .fadd
  | 5 => .fix
  | 6 => .fsub
  | 7 => .fixu

/-- The operation codes #08 to #0F (30_encoding.md R71). -/
def decodeRow08 (column : Fin 8) (_ _ _ : Byte) : Instr :=
  match column with
  | 0 => .flot
  | 1 => .floti
  | 2 => .flotu
  | 3 => .flotui
  | 4 => .sflot
  | 5 => .sfloti
  | 6 => .sflotu
  | 7 => .sflotui

/-- The operation codes #10 to #17 (30_encoding.md R71). -/
def decodeRow10 (column : Fin 8) (_ _ _ : Byte) : Instr :=
  match column with
  | 0 => .fmul
  | 1 => .fcmpe
  | 2 => .fune
  | 3 => .feqle
  | 4 => .fdiv
  | 5 => .fsqrt
  | 6 => .frem
  | 7 => .fint

/-- The operation codes #18 to #1F (30_encoding.md R71). -/
def decodeRow18 (column : Fin 8) (_ _ _ : Byte) : Instr :=
  match column with
  | 0 => .mul
  | 1 => .muli
  | 2 => .mulu
  | 3 => .mului
  | 4 => .div
  | 5 => .divi
  | 6 => .divu
  | 7 => .divui

/-- The operation codes #20 to #27 (30_encoding.md R71). -/
def decodeRow20 (column : Fin 8) (x y z : Byte) : Instr :=
  match column with
  | 0 => .add (regOf x) (regOf y) (regOf z)
  | 1 => .addi (regOf x) (regOf y) z
  | 2 => .addu (regOf x) (regOf y) (regOf z)
  | 3 => .addui (regOf x) (regOf y) z
  | 4 => .sub (regOf x) (regOf y) (regOf z)
  | 5 => .subi (regOf x) (regOf y) z
  | 6 => .subu (regOf x) (regOf y) (regOf z)
  | 7 => .subui (regOf x) (regOf y) z

/-- The operation codes #28 to #2F (30_encoding.md R71). -/
def decodeRow28 (column : Fin 8) (x y z : Byte) : Instr :=
  match column with
  | 0 => .addu2 (regOf x) (regOf y) (regOf z)
  | 1 => .addu2i (regOf x) (regOf y) z
  | 2 => .addu4 (regOf x) (regOf y) (regOf z)
  | 3 => .addu4i (regOf x) (regOf y) z
  | 4 => .addu8 (regOf x) (regOf y) (regOf z)
  | 5 => .addu8i (regOf x) (regOf y) z
  | 6 => .addu16 (regOf x) (regOf y) (regOf z)
  | 7 => .addu16i (regOf x) (regOf y) z

/-- The operation codes #30 to #37 (30_encoding.md R71). -/
def decodeRow30 (column : Fin 8) (x y z : Byte) : Instr :=
  match column with
  | 0 => .cmp (regOf x) (regOf y) (regOf z)
  | 1 => .cmpi (regOf x) (regOf y) z
  | 2 => .cmpu (regOf x) (regOf y) (regOf z)
  | 3 => .cmpui (regOf x) (regOf y) z
  | 4 => .neg (regOf x) y (regOf z)
  | 5 => .negi (regOf x) y z
  | 6 => .negu (regOf x) y (regOf z)
  | 7 => .negui (regOf x) y z

/-- The operation codes #38 to #3F (30_encoding.md R71). -/
def decodeRow38 (column : Fin 8) (x y z : Byte) : Instr :=
  match column with
  | 0 => .sl (regOf x) (regOf y) (regOf z)
  | 1 => .sli (regOf x) (regOf y) z
  | 2 => .slu (regOf x) (regOf y) (regOf z)
  | 3 => .slui (regOf x) (regOf y) z
  | 4 => .sr (regOf x) (regOf y) (regOf z)
  | 5 => .sri (regOf x) (regOf y) z
  | 6 => .sru (regOf x) (regOf y) (regOf z)
  | 7 => .srui (regOf x) (regOf y) z

/-- The operation codes #40 to #47 (30_encoding.md R71). -/
def decodeRow40 (column : Fin 8) (x y z : Byte) : Instr :=
  match column with
  | 0 => .bn (regOf x) (y ++ z)
  | 1 => .bnb (regOf x) (y ++ z)
  | 2 => .bz (regOf x) (y ++ z)
  | 3 => .bzb (regOf x) (y ++ z)
  | 4 => .bp (regOf x) (y ++ z)
  | 5 => .bpb (regOf x) (y ++ z)
  | 6 => .bod (regOf x) (y ++ z)
  | 7 => .bodb (regOf x) (y ++ z)

/-- The operation codes #48 to #4F (30_encoding.md R71). -/
def decodeRow48 (column : Fin 8) (x y z : Byte) : Instr :=
  match column with
  | 0 => .bnn (regOf x) (y ++ z)
  | 1 => .bnnb (regOf x) (y ++ z)
  | 2 => .bnz (regOf x) (y ++ z)
  | 3 => .bnzb (regOf x) (y ++ z)
  | 4 => .bnp (regOf x) (y ++ z)
  | 5 => .bnpb (regOf x) (y ++ z)
  | 6 => .bev (regOf x) (y ++ z)
  | 7 => .bevb (regOf x) (y ++ z)

/-- The operation codes #50 to #57 (30_encoding.md R71). -/
def decodeRow50 (column : Fin 8) (x y z : Byte) : Instr :=
  match column with
  | 0 => .pbn (regOf x) (y ++ z)
  | 1 => .pbnb (regOf x) (y ++ z)
  | 2 => .pbz (regOf x) (y ++ z)
  | 3 => .pbzb (regOf x) (y ++ z)
  | 4 => .pbp (regOf x) (y ++ z)
  | 5 => .pbpb (regOf x) (y ++ z)
  | 6 => .pbod (regOf x) (y ++ z)
  | 7 => .pbodb (regOf x) (y ++ z)

/-- The operation codes #58 to #5F (30_encoding.md R71). -/
def decodeRow58 (column : Fin 8) (x y z : Byte) : Instr :=
  match column with
  | 0 => .pbnn (regOf x) (y ++ z)
  | 1 => .pbnnb (regOf x) (y ++ z)
  | 2 => .pbnz (regOf x) (y ++ z)
  | 3 => .pbnzb (regOf x) (y ++ z)
  | 4 => .pbnp (regOf x) (y ++ z)
  | 5 => .pbnpb (regOf x) (y ++ z)
  | 6 => .pbev (regOf x) (y ++ z)
  | 7 => .pbevb (regOf x) (y ++ z)

/-- The operation codes #60 to #67 (30_encoding.md R71). -/
def decodeRow60 (column : Fin 8) (x y z : Byte) : Instr :=
  match column with
  | 0 => .csn (regOf x) (regOf y) (regOf z)
  | 1 => .csni (regOf x) (regOf y) z
  | 2 => .csz (regOf x) (regOf y) (regOf z)
  | 3 => .cszi (regOf x) (regOf y) z
  | 4 => .csp (regOf x) (regOf y) (regOf z)
  | 5 => .cspi (regOf x) (regOf y) z
  | 6 => .csod (regOf x) (regOf y) (regOf z)
  | 7 => .csodi (regOf x) (regOf y) z

/-- The operation codes #68 to #6F (30_encoding.md R71). -/
def decodeRow68 (column : Fin 8) (x y z : Byte) : Instr :=
  match column with
  | 0 => .csnn (regOf x) (regOf y) (regOf z)
  | 1 => .csnni (regOf x) (regOf y) z
  | 2 => .csnz (regOf x) (regOf y) (regOf z)
  | 3 => .csnzi (regOf x) (regOf y) z
  | 4 => .csnp (regOf x) (regOf y) (regOf z)
  | 5 => .csnpi (regOf x) (regOf y) z
  | 6 => .csev (regOf x) (regOf y) (regOf z)
  | 7 => .csevi (regOf x) (regOf y) z

/-- The operation codes #70 to #77 (30_encoding.md R71). -/
def decodeRow70 (column : Fin 8) (x y z : Byte) : Instr :=
  match column with
  | 0 => .zsn (regOf x) (regOf y) (regOf z)
  | 1 => .zsni (regOf x) (regOf y) z
  | 2 => .zsz (regOf x) (regOf y) (regOf z)
  | 3 => .zszi (regOf x) (regOf y) z
  | 4 => .zsp (regOf x) (regOf y) (regOf z)
  | 5 => .zspi (regOf x) (regOf y) z
  | 6 => .zsod (regOf x) (regOf y) (regOf z)
  | 7 => .zsodi (regOf x) (regOf y) z

/-- The operation codes #78 to #7F (30_encoding.md R71). -/
def decodeRow78 (column : Fin 8) (x y z : Byte) : Instr :=
  match column with
  | 0 => .zsnn (regOf x) (regOf y) (regOf z)
  | 1 => .zsnni (regOf x) (regOf y) z
  | 2 => .zsnz (regOf x) (regOf y) (regOf z)
  | 3 => .zsnzi (regOf x) (regOf y) z
  | 4 => .zsnp (regOf x) (regOf y) (regOf z)
  | 5 => .zsnpi (regOf x) (regOf y) z
  | 6 => .zsev (regOf x) (regOf y) (regOf z)
  | 7 => .zsevi (regOf x) (regOf y) z

/-- The operation codes #80 to #87 (30_encoding.md R71). -/
def decodeRow80 (column : Fin 8) (x y z : Byte) : Instr :=
  match column with
  | 0 => .ldb (regOf x) (regOf y) (regOf z)
  | 1 => .ldbi (regOf x) (regOf y) z
  | 2 => .ldbu (regOf x) (regOf y) (regOf z)
  | 3 => .ldbui (regOf x) (regOf y) z
  | 4 => .ldw (regOf x) (regOf y) (regOf z)
  | 5 => .ldwi (regOf x) (regOf y) z
  | 6 => .ldwu (regOf x) (regOf y) (regOf z)
  | 7 => .ldwui (regOf x) (regOf y) z

/-- The operation codes #88 to #8F (30_encoding.md R71). -/
def decodeRow88 (column : Fin 8) (x y z : Byte) : Instr :=
  match column with
  | 0 => .ldt (regOf x) (regOf y) (regOf z)
  | 1 => .ldti (regOf x) (regOf y) z
  | 2 => .ldtu (regOf x) (regOf y) (regOf z)
  | 3 => .ldtui (regOf x) (regOf y) z
  | 4 => .ldo (regOf x) (regOf y) (regOf z)
  | 5 => .ldoi (regOf x) (regOf y) z
  | 6 => .ldou (regOf x) (regOf y) (regOf z)
  | 7 => .ldoui (regOf x) (regOf y) z

/-- The operation codes #90 to #97 (30_encoding.md R71). -/
def decodeRow90 (column : Fin 8) (x y z : Byte) : Instr :=
  match column with
  | 0 => .ldsf
  | 1 => .ldsfi
  | 2 => .ldht (regOf x) (regOf y) (regOf z)
  | 3 => .ldhti (regOf x) (regOf y) z
  | 4 => .cswap
  | 5 => .cswapi
  | 6 => .ldunc
  | 7 => .ldunci

/-- The operation codes #98 to #9F (30_encoding.md R71). -/
def decodeRow98 (column : Fin 8) (_ _ _ : Byte) : Instr :=
  match column with
  | 0 => .ldvts
  | 1 => .ldvtsi
  | 2 => .preld
  | 3 => .preldi
  | 4 => .prego
  | 5 => .pregoi
  | 6 => .go
  | 7 => .goi

/-- The operation codes #A0 to #A7 (30_encoding.md R71). -/
def decodeRowA0 (column : Fin 8) (x y z : Byte) : Instr :=
  match column with
  | 0 => .stb (regOf x) (regOf y) (regOf z)
  | 1 => .stbi (regOf x) (regOf y) z
  | 2 => .stbu (regOf x) (regOf y) (regOf z)
  | 3 => .stbui (regOf x) (regOf y) z
  | 4 => .stw (regOf x) (regOf y) (regOf z)
  | 5 => .stwi (regOf x) (regOf y) z
  | 6 => .stwu (regOf x) (regOf y) (regOf z)
  | 7 => .stwui (regOf x) (regOf y) z

/-- The operation codes #A8 to #AF (30_encoding.md R71). -/
def decodeRowA8 (column : Fin 8) (x y z : Byte) : Instr :=
  match column with
  | 0 => .stt (regOf x) (regOf y) (regOf z)
  | 1 => .stti (regOf x) (regOf y) z
  | 2 => .sttu (regOf x) (regOf y) (regOf z)
  | 3 => .sttui (regOf x) (regOf y) z
  | 4 => .sto (regOf x) (regOf y) (regOf z)
  | 5 => .stoi (regOf x) (regOf y) z
  | 6 => .stou (regOf x) (regOf y) (regOf z)
  | 7 => .stoui (regOf x) (regOf y) z

/-- The operation codes #B0 to #B7 (30_encoding.md R71). -/
def decodeRowB0 (column : Fin 8) (x y z : Byte) : Instr :=
  match column with
  | 0 => .stsf
  | 1 => .stsfi
  | 2 => .stht (regOf x) (regOf y) (regOf z)
  | 3 => .sthti (regOf x) (regOf y) z
  | 4 => .stco x (regOf y) (regOf z)
  | 5 => .stcoi x (regOf y) z
  | 6 => .stunc
  | 7 => .stunci

/-- The operation codes #B8 to #BF (30_encoding.md R71). -/
def decodeRowB8 (column : Fin 8) (_ _ _ : Byte) : Instr :=
  match column with
  | 0 => .syncd
  | 1 => .syncdi
  | 2 => .prest
  | 3 => .presti
  | 4 => .syncid
  | 5 => .syncidi
  | 6 => .pushgo
  | 7 => .pushgoi

/-- The operation codes #C0 to #C7 (30_encoding.md R71). -/
def decodeRowC0 (column : Fin 8) (x y z : Byte) : Instr :=
  match column with
  | 0 => .or (regOf x) (regOf y) (regOf z)
  | 1 => .ori (regOf x) (regOf y) z
  | 2 => .orn (regOf x) (regOf y) (regOf z)
  | 3 => .orni (regOf x) (regOf y) z
  | 4 => .nor (regOf x) (regOf y) (regOf z)
  | 5 => .nori (regOf x) (regOf y) z
  | 6 => .xor (regOf x) (regOf y) (regOf z)
  | 7 => .xori (regOf x) (regOf y) z

/-- The operation codes #C8 to #CF (30_encoding.md R71). -/
def decodeRowC8 (column : Fin 8) (x y z : Byte) : Instr :=
  match column with
  | 0 => .and (regOf x) (regOf y) (regOf z)
  | 1 => .andi (regOf x) (regOf y) z
  | 2 => .andn (regOf x) (regOf y) (regOf z)
  | 3 => .andni (regOf x) (regOf y) z
  | 4 => .nand (regOf x) (regOf y) (regOf z)
  | 5 => .nandi (regOf x) (regOf y) z
  | 6 => .nxor (regOf x) (regOf y) (regOf z)
  | 7 => .nxori (regOf x) (regOf y) z

/-- The operation codes #D0 to #D7 (30_encoding.md R71). -/
def decodeRowD0 (column : Fin 8) (x y z : Byte) : Instr :=
  match column with
  | 0 => .bdif (regOf x) (regOf y) (regOf z)
  | 1 => .bdifi (regOf x) (regOf y) z
  | 2 => .wdif (regOf x) (regOf y) (regOf z)
  | 3 => .wdifi (regOf x) (regOf y) z
  | 4 => .tdif (regOf x) (regOf y) (regOf z)
  | 5 => .tdifi (regOf x) (regOf y) z
  | 6 => .odif (regOf x) (regOf y) (regOf z)
  | 7 => .odifi (regOf x) (regOf y) z

/-- The operation codes #D8 to #DF (30_encoding.md R71). -/
def decodeRowD8 (column : Fin 8) (x y z : Byte) : Instr :=
  match column with
  | 0 => .mux (regOf x) (regOf y) (regOf z)
  | 1 => .muxi (regOf x) (regOf y) z
  | 2 => .sadd (regOf x) (regOf y) (regOf z)
  | 3 => .saddi (regOf x) (regOf y) z
  | 4 => .mor (regOf x) (regOf y) (regOf z)
  | 5 => .mori (regOf x) (regOf y) z
  | 6 => .mxor (regOf x) (regOf y) (regOf z)
  | 7 => .mxori (regOf x) (regOf y) z

/-- The operation codes #E0 to #E7 (30_encoding.md R71). -/
def decodeRowE0 (column : Fin 8) (x y z : Byte) : Instr :=
  match column with
  | 0 => .seth (regOf x) (y ++ z)
  | 1 => .setmh (regOf x) (y ++ z)
  | 2 => .setml (regOf x) (y ++ z)
  | 3 => .setl (regOf x) (y ++ z)
  | 4 => .inch (regOf x) (y ++ z)
  | 5 => .incmh (regOf x) (y ++ z)
  | 6 => .incml (regOf x) (y ++ z)
  | 7 => .incl (regOf x) (y ++ z)

/-- The operation codes #E8 to #EF (30_encoding.md R71). -/
def decodeRowE8 (column : Fin 8) (x y z : Byte) : Instr :=
  match column with
  | 0 => .orh (regOf x) (y ++ z)
  | 1 => .ormh (regOf x) (y ++ z)
  | 2 => .orml (regOf x) (y ++ z)
  | 3 => .orl (regOf x) (y ++ z)
  | 4 => .andnh (regOf x) (y ++ z)
  | 5 => .andnmh (regOf x) (y ++ z)
  | 6 => .andnml (regOf x) (y ++ z)
  | 7 => .andnl (regOf x) (y ++ z)

/-- The operation codes #F0 to #F7 (30_encoding.md R71). -/
def decodeRowF0 (column : Fin 8) (_ _ _ : Byte) : Instr :=
  match column with
  | 0 => .jmp
  | 1 => .jmpb
  | 2 => .pushj
  | 3 => .pushjb
  | 4 => .geta
  | 5 => .getab
  | 6 => .put
  | 7 => .puti

/-- The operation codes #F8 to #FF (30_encoding.md R71). -/
def decodeRowF8 (column : Fin 8) (_ _ _ : Byte) : Instr :=
  match column with
  | 0 => .pop
  | 1 => .resume
  | 2 => .save
  | 3 => .unsave
  | 4 => .sync
  | 5 => .swym
  | 6 => .get
  | 7 => .trip

/-- The operation codes #00 to #3F, by the row of the chart. -/
def decodeQuarter00 (row column : Fin 8) (x y z : Byte) : Instr :=
  match row with
  | 0 => decodeRow00 column x y z
  | 1 => decodeRow08 column x y z
  | 2 => decodeRow10 column x y z
  | 3 => decodeRow18 column x y z
  | 4 => decodeRow20 column x y z
  | 5 => decodeRow28 column x y z
  | 6 => decodeRow30 column x y z
  | 7 => decodeRow38 column x y z

/-- The operation codes #40 to #7F, by the row of the chart. -/
def decodeQuarter40 (row column : Fin 8) (x y z : Byte) : Instr :=
  match row with
  | 0 => decodeRow40 column x y z
  | 1 => decodeRow48 column x y z
  | 2 => decodeRow50 column x y z
  | 3 => decodeRow58 column x y z
  | 4 => decodeRow60 column x y z
  | 5 => decodeRow68 column x y z
  | 6 => decodeRow70 column x y z
  | 7 => decodeRow78 column x y z

/-- The operation codes #80 to #BF, by the row of the chart. -/
def decodeQuarter80 (row column : Fin 8) (x y z : Byte) : Instr :=
  match row with
  | 0 => decodeRow80 column x y z
  | 1 => decodeRow88 column x y z
  | 2 => decodeRow90 column x y z
  | 3 => decodeRow98 column x y z
  | 4 => decodeRowA0 column x y z
  | 5 => decodeRowA8 column x y z
  | 6 => decodeRowB0 column x y z
  | 7 => decodeRowB8 column x y z

/-- The operation codes #C0 to #FF, by the row of the chart. -/
def decodeQuarterC0 (row column : Fin 8) (x y z : Byte) : Instr :=
  match row with
  | 0 => decodeRowC0 column x y z
  | 1 => decodeRowC8 column x y z
  | 2 => decodeRowD0 column x y z
  | 3 => decodeRowD8 column x y z
  | 4 => decodeRowE0 column x y z
  | 5 => decodeRowE8 column x y z
  | 6 => decodeRowF0 column x y z
  | 7 => decodeRowF8 column x y z

/-- The quarter of the chart that an operation code stands in: its two high bits. -/
def chartQuarter (op : Byte) : Fin 4 := ⟨op.toNat / 64, by omega⟩

/-- The row of its quarter that an operation code stands in: the next three bits. -/
def chartRow (op : Byte) : Fin 8 := ⟨op.toNat / 8 % 8, by omega⟩

/-- The column of the chart that an operation code stands in: its three low bits. -/
def chartColumn (op : Byte) : Fin 8 := ⟨op.toNat % 8, by omega⟩

/-- The instruction OP X Y Z. Only OP selects the instruction (30_encoding.md R72). -/
def decodeFields (op x y z : Byte) : Instr :=
  match chartQuarter op with
  | 0 => decodeQuarter00 (chartRow op) (chartColumn op) x y z
  | 1 => decodeQuarter40 (chartRow op) (chartColumn op) x y z
  | 2 => decodeQuarter80 (chartRow op) (chartColumn op) x y z
  | 3 => decodeQuarterC0 (chartRow op) (chartColumn op) x y z

/-- The instruction that a tetrabyte stands for. Total on all 2^32 words (30_encoding.md R72): a word
with an operation code out of scope decodes to that code's constructor, whatever X, Y, Z are; its
meaning is the refusal by name (R75). -/
def decode (t : Tetra) : Instr := decodeFields (opByte t) (xByte t) (yByte t) (zByte t)

/-- Why bytes are no instruction: there are not four of them ("Every instruction is four bytes long",
30_encoding.md R60). -/
inductive DecodeError where
  | notFourBytes (given : Nat)
deriving DecidableEq, Repr

/-- The tetrabyte that four bytes hold, the first at the lowest address (20_memory.md R41). -/
def tetraOfBytes : List Byte → Except DecodeError Tetra
  | [op, x, y, z] => .ok (tetraOfFields op x y z)
  | bytes => .error (.notFourBytes bytes.length)

/-- The instruction that bytes hold, or why they hold none. -/
def decodeBytes (bytes : List Byte) : Except DecodeError Instr :=
  match tetraOfBytes bytes with
  | .ok t => .ok (decode t)
  | .error e => .error e

/-- The instruction of a row of spec/opcode_table.json: the table numbers the bits of the one tetrabyte,
bit 0 the least significant; memory holds it most significant byte first. -/
def decodeTableWord (nbits w : Nat) : Option Instr :=
  match decodeBytes (tetraBytes (BitVec.ofNat 32 (w % 2 ^ nbits))) with
  | .ok i => some i
  | .error _ => none

/-! ## Encoding (30_encoding.md R60, R61, R71) -/

/-- The four bytes OP, X, Y, Z of an instruction; a code out of scope has X = Y = Z = 0, as "an
instruction with no operands" has (30_encoding.md R78). -/
def encodeFields : Instr → Byte × Byte × Byte × Byte
  | .add x y z => (0x20, byteOf x, byteOf y, byteOf z)
  | .addi x y z => (0x21, byteOf x, byteOf y, z)
  | .addu x y z => (0x22, byteOf x, byteOf y, byteOf z)
  | .addui x y z => (0x23, byteOf x, byteOf y, z)
  | .sub x y z => (0x24, byteOf x, byteOf y, byteOf z)
  | .subi x y z => (0x25, byteOf x, byteOf y, z)
  | .subu x y z => (0x26, byteOf x, byteOf y, byteOf z)
  | .subui x y z => (0x27, byteOf x, byteOf y, z)
  | .addu2 x y z => (0x28, byteOf x, byteOf y, byteOf z)
  | .addu2i x y z => (0x29, byteOf x, byteOf y, z)
  | .addu4 x y z => (0x2A, byteOf x, byteOf y, byteOf z)
  | .addu4i x y z => (0x2B, byteOf x, byteOf y, z)
  | .addu8 x y z => (0x2C, byteOf x, byteOf y, byteOf z)
  | .addu8i x y z => (0x2D, byteOf x, byteOf y, z)
  | .addu16 x y z => (0x2E, byteOf x, byteOf y, byteOf z)
  | .addu16i x y z => (0x2F, byteOf x, byteOf y, z)
  | .cmp x y z => (0x30, byteOf x, byteOf y, byteOf z)
  | .cmpi x y z => (0x31, byteOf x, byteOf y, z)
  | .cmpu x y z => (0x32, byteOf x, byteOf y, byteOf z)
  | .cmpui x y z => (0x33, byteOf x, byteOf y, z)
  | .neg x y z => (0x34, byteOf x, y, byteOf z)
  | .negi x y z => (0x35, byteOf x, y, z)
  | .negu x y z => (0x36, byteOf x, y, byteOf z)
  | .negui x y z => (0x37, byteOf x, y, z)
  | .sl x y z => (0x38, byteOf x, byteOf y, byteOf z)
  | .sli x y z => (0x39, byteOf x, byteOf y, z)
  | .slu x y z => (0x3A, byteOf x, byteOf y, byteOf z)
  | .slui x y z => (0x3B, byteOf x, byteOf y, z)
  | .sr x y z => (0x3C, byteOf x, byteOf y, byteOf z)
  | .sri x y z => (0x3D, byteOf x, byteOf y, z)
  | .sru x y z => (0x3E, byteOf x, byteOf y, byteOf z)
  | .srui x y z => (0x3F, byteOf x, byteOf y, z)
  | .bn x yz => (0x40, byteOf x, highByte yz, lowByte yz)
  | .bnb x yz => (0x41, byteOf x, highByte yz, lowByte yz)
  | .bz x yz => (0x42, byteOf x, highByte yz, lowByte yz)
  | .bzb x yz => (0x43, byteOf x, highByte yz, lowByte yz)
  | .bp x yz => (0x44, byteOf x, highByte yz, lowByte yz)
  | .bpb x yz => (0x45, byteOf x, highByte yz, lowByte yz)
  | .bod x yz => (0x46, byteOf x, highByte yz, lowByte yz)
  | .bodb x yz => (0x47, byteOf x, highByte yz, lowByte yz)
  | .bnn x yz => (0x48, byteOf x, highByte yz, lowByte yz)
  | .bnnb x yz => (0x49, byteOf x, highByte yz, lowByte yz)
  | .bnz x yz => (0x4A, byteOf x, highByte yz, lowByte yz)
  | .bnzb x yz => (0x4B, byteOf x, highByte yz, lowByte yz)
  | .bnp x yz => (0x4C, byteOf x, highByte yz, lowByte yz)
  | .bnpb x yz => (0x4D, byteOf x, highByte yz, lowByte yz)
  | .bev x yz => (0x4E, byteOf x, highByte yz, lowByte yz)
  | .bevb x yz => (0x4F, byteOf x, highByte yz, lowByte yz)
  | .pbn x yz => (0x50, byteOf x, highByte yz, lowByte yz)
  | .pbnb x yz => (0x51, byteOf x, highByte yz, lowByte yz)
  | .pbz x yz => (0x52, byteOf x, highByte yz, lowByte yz)
  | .pbzb x yz => (0x53, byteOf x, highByte yz, lowByte yz)
  | .pbp x yz => (0x54, byteOf x, highByte yz, lowByte yz)
  | .pbpb x yz => (0x55, byteOf x, highByte yz, lowByte yz)
  | .pbod x yz => (0x56, byteOf x, highByte yz, lowByte yz)
  | .pbodb x yz => (0x57, byteOf x, highByte yz, lowByte yz)
  | .pbnn x yz => (0x58, byteOf x, highByte yz, lowByte yz)
  | .pbnnb x yz => (0x59, byteOf x, highByte yz, lowByte yz)
  | .pbnz x yz => (0x5A, byteOf x, highByte yz, lowByte yz)
  | .pbnzb x yz => (0x5B, byteOf x, highByte yz, lowByte yz)
  | .pbnp x yz => (0x5C, byteOf x, highByte yz, lowByte yz)
  | .pbnpb x yz => (0x5D, byteOf x, highByte yz, lowByte yz)
  | .pbev x yz => (0x5E, byteOf x, highByte yz, lowByte yz)
  | .pbevb x yz => (0x5F, byteOf x, highByte yz, lowByte yz)
  | .csn x y z => (0x60, byteOf x, byteOf y, byteOf z)
  | .csni x y z => (0x61, byteOf x, byteOf y, z)
  | .csz x y z => (0x62, byteOf x, byteOf y, byteOf z)
  | .cszi x y z => (0x63, byteOf x, byteOf y, z)
  | .csp x y z => (0x64, byteOf x, byteOf y, byteOf z)
  | .cspi x y z => (0x65, byteOf x, byteOf y, z)
  | .csod x y z => (0x66, byteOf x, byteOf y, byteOf z)
  | .csodi x y z => (0x67, byteOf x, byteOf y, z)
  | .csnn x y z => (0x68, byteOf x, byteOf y, byteOf z)
  | .csnni x y z => (0x69, byteOf x, byteOf y, z)
  | .csnz x y z => (0x6A, byteOf x, byteOf y, byteOf z)
  | .csnzi x y z => (0x6B, byteOf x, byteOf y, z)
  | .csnp x y z => (0x6C, byteOf x, byteOf y, byteOf z)
  | .csnpi x y z => (0x6D, byteOf x, byteOf y, z)
  | .csev x y z => (0x6E, byteOf x, byteOf y, byteOf z)
  | .csevi x y z => (0x6F, byteOf x, byteOf y, z)
  | .zsn x y z => (0x70, byteOf x, byteOf y, byteOf z)
  | .zsni x y z => (0x71, byteOf x, byteOf y, z)
  | .zsz x y z => (0x72, byteOf x, byteOf y, byteOf z)
  | .zszi x y z => (0x73, byteOf x, byteOf y, z)
  | .zsp x y z => (0x74, byteOf x, byteOf y, byteOf z)
  | .zspi x y z => (0x75, byteOf x, byteOf y, z)
  | .zsod x y z => (0x76, byteOf x, byteOf y, byteOf z)
  | .zsodi x y z => (0x77, byteOf x, byteOf y, z)
  | .zsnn x y z => (0x78, byteOf x, byteOf y, byteOf z)
  | .zsnni x y z => (0x79, byteOf x, byteOf y, z)
  | .zsnz x y z => (0x7A, byteOf x, byteOf y, byteOf z)
  | .zsnzi x y z => (0x7B, byteOf x, byteOf y, z)
  | .zsnp x y z => (0x7C, byteOf x, byteOf y, byteOf z)
  | .zsnpi x y z => (0x7D, byteOf x, byteOf y, z)
  | .zsev x y z => (0x7E, byteOf x, byteOf y, byteOf z)
  | .zsevi x y z => (0x7F, byteOf x, byteOf y, z)
  | .ldb x y z => (0x80, byteOf x, byteOf y, byteOf z)
  | .ldbi x y z => (0x81, byteOf x, byteOf y, z)
  | .ldbu x y z => (0x82, byteOf x, byteOf y, byteOf z)
  | .ldbui x y z => (0x83, byteOf x, byteOf y, z)
  | .ldw x y z => (0x84, byteOf x, byteOf y, byteOf z)
  | .ldwi x y z => (0x85, byteOf x, byteOf y, z)
  | .ldwu x y z => (0x86, byteOf x, byteOf y, byteOf z)
  | .ldwui x y z => (0x87, byteOf x, byteOf y, z)
  | .ldt x y z => (0x88, byteOf x, byteOf y, byteOf z)
  | .ldti x y z => (0x89, byteOf x, byteOf y, z)
  | .ldtu x y z => (0x8A, byteOf x, byteOf y, byteOf z)
  | .ldtui x y z => (0x8B, byteOf x, byteOf y, z)
  | .ldo x y z => (0x8C, byteOf x, byteOf y, byteOf z)
  | .ldoi x y z => (0x8D, byteOf x, byteOf y, z)
  | .ldou x y z => (0x8E, byteOf x, byteOf y, byteOf z)
  | .ldoui x y z => (0x8F, byteOf x, byteOf y, z)
  | .ldht x y z => (0x92, byteOf x, byteOf y, byteOf z)
  | .ldhti x y z => (0x93, byteOf x, byteOf y, z)
  | .stb x y z => (0xA0, byteOf x, byteOf y, byteOf z)
  | .stbi x y z => (0xA1, byteOf x, byteOf y, z)
  | .stbu x y z => (0xA2, byteOf x, byteOf y, byteOf z)
  | .stbui x y z => (0xA3, byteOf x, byteOf y, z)
  | .stw x y z => (0xA4, byteOf x, byteOf y, byteOf z)
  | .stwi x y z => (0xA5, byteOf x, byteOf y, z)
  | .stwu x y z => (0xA6, byteOf x, byteOf y, byteOf z)
  | .stwui x y z => (0xA7, byteOf x, byteOf y, z)
  | .stt x y z => (0xA8, byteOf x, byteOf y, byteOf z)
  | .stti x y z => (0xA9, byteOf x, byteOf y, z)
  | .sttu x y z => (0xAA, byteOf x, byteOf y, byteOf z)
  | .sttui x y z => (0xAB, byteOf x, byteOf y, z)
  | .sto x y z => (0xAC, byteOf x, byteOf y, byteOf z)
  | .stoi x y z => (0xAD, byteOf x, byteOf y, z)
  | .stou x y z => (0xAE, byteOf x, byteOf y, byteOf z)
  | .stoui x y z => (0xAF, byteOf x, byteOf y, z)
  | .stht x y z => (0xB2, byteOf x, byteOf y, byteOf z)
  | .sthti x y z => (0xB3, byteOf x, byteOf y, z)
  | .stco x y z => (0xB4, x, byteOf y, byteOf z)
  | .stcoi x y z => (0xB5, x, byteOf y, z)
  | .or x y z => (0xC0, byteOf x, byteOf y, byteOf z)
  | .ori x y z => (0xC1, byteOf x, byteOf y, z)
  | .orn x y z => (0xC2, byteOf x, byteOf y, byteOf z)
  | .orni x y z => (0xC3, byteOf x, byteOf y, z)
  | .nor x y z => (0xC4, byteOf x, byteOf y, byteOf z)
  | .nori x y z => (0xC5, byteOf x, byteOf y, z)
  | .xor x y z => (0xC6, byteOf x, byteOf y, byteOf z)
  | .xori x y z => (0xC7, byteOf x, byteOf y, z)
  | .and x y z => (0xC8, byteOf x, byteOf y, byteOf z)
  | .andi x y z => (0xC9, byteOf x, byteOf y, z)
  | .andn x y z => (0xCA, byteOf x, byteOf y, byteOf z)
  | .andni x y z => (0xCB, byteOf x, byteOf y, z)
  | .nand x y z => (0xCC, byteOf x, byteOf y, byteOf z)
  | .nandi x y z => (0xCD, byteOf x, byteOf y, z)
  | .nxor x y z => (0xCE, byteOf x, byteOf y, byteOf z)
  | .nxori x y z => (0xCF, byteOf x, byteOf y, z)
  | .bdif x y z => (0xD0, byteOf x, byteOf y, byteOf z)
  | .bdifi x y z => (0xD1, byteOf x, byteOf y, z)
  | .wdif x y z => (0xD2, byteOf x, byteOf y, byteOf z)
  | .wdifi x y z => (0xD3, byteOf x, byteOf y, z)
  | .tdif x y z => (0xD4, byteOf x, byteOf y, byteOf z)
  | .tdifi x y z => (0xD5, byteOf x, byteOf y, z)
  | .odif x y z => (0xD6, byteOf x, byteOf y, byteOf z)
  | .odifi x y z => (0xD7, byteOf x, byteOf y, z)
  | .mux x y z => (0xD8, byteOf x, byteOf y, byteOf z)
  | .muxi x y z => (0xD9, byteOf x, byteOf y, z)
  | .sadd x y z => (0xDA, byteOf x, byteOf y, byteOf z)
  | .saddi x y z => (0xDB, byteOf x, byteOf y, z)
  | .mor x y z => (0xDC, byteOf x, byteOf y, byteOf z)
  | .mori x y z => (0xDD, byteOf x, byteOf y, z)
  | .mxor x y z => (0xDE, byteOf x, byteOf y, byteOf z)
  | .mxori x y z => (0xDF, byteOf x, byteOf y, z)
  | .seth x yz => (0xE0, byteOf x, highByte yz, lowByte yz)
  | .setmh x yz => (0xE1, byteOf x, highByte yz, lowByte yz)
  | .setml x yz => (0xE2, byteOf x, highByte yz, lowByte yz)
  | .setl x yz => (0xE3, byteOf x, highByte yz, lowByte yz)
  | .inch x yz => (0xE4, byteOf x, highByte yz, lowByte yz)
  | .incmh x yz => (0xE5, byteOf x, highByte yz, lowByte yz)
  | .incml x yz => (0xE6, byteOf x, highByte yz, lowByte yz)
  | .incl x yz => (0xE7, byteOf x, highByte yz, lowByte yz)
  | .orh x yz => (0xE8, byteOf x, highByte yz, lowByte yz)
  | .ormh x yz => (0xE9, byteOf x, highByte yz, lowByte yz)
  | .orml x yz => (0xEA, byteOf x, highByte yz, lowByte yz)
  | .orl x yz => (0xEB, byteOf x, highByte yz, lowByte yz)
  | .andnh x yz => (0xEC, byteOf x, highByte yz, lowByte yz)
  | .andnmh x yz => (0xED, byteOf x, highByte yz, lowByte yz)
  | .andnml x yz => (0xEE, byteOf x, highByte yz, lowByte yz)
  | .andnl x yz => (0xEF, byteOf x, highByte yz, lowByte yz)
  | .trap => (0x00, 0, 0, 0)
  | .fcmp => (0x01, 0, 0, 0)
  | .fun_ => (0x02, 0, 0, 0)
  | .feql => (0x03, 0, 0, 0)
  | .fadd => (0x04, 0, 0, 0)
  | .fix => (0x05, 0, 0, 0)
  | .fsub => (0x06, 0, 0, 0)
  | .fixu => (0x07, 0, 0, 0)
  | .flot => (0x08, 0, 0, 0)
  | .floti => (0x09, 0, 0, 0)
  | .flotu => (0x0A, 0, 0, 0)
  | .flotui => (0x0B, 0, 0, 0)
  | .sflot => (0x0C, 0, 0, 0)
  | .sfloti => (0x0D, 0, 0, 0)
  | .sflotu => (0x0E, 0, 0, 0)
  | .sflotui => (0x0F, 0, 0, 0)
  | .fmul => (0x10, 0, 0, 0)
  | .fcmpe => (0x11, 0, 0, 0)
  | .fune => (0x12, 0, 0, 0)
  | .feqle => (0x13, 0, 0, 0)
  | .fdiv => (0x14, 0, 0, 0)
  | .fsqrt => (0x15, 0, 0, 0)
  | .frem => (0x16, 0, 0, 0)
  | .fint => (0x17, 0, 0, 0)
  | .mul => (0x18, 0, 0, 0)
  | .muli => (0x19, 0, 0, 0)
  | .mulu => (0x1A, 0, 0, 0)
  | .mului => (0x1B, 0, 0, 0)
  | .div => (0x1C, 0, 0, 0)
  | .divi => (0x1D, 0, 0, 0)
  | .divu => (0x1E, 0, 0, 0)
  | .divui => (0x1F, 0, 0, 0)
  | .ldsf => (0x90, 0, 0, 0)
  | .ldsfi => (0x91, 0, 0, 0)
  | .cswap => (0x94, 0, 0, 0)
  | .cswapi => (0x95, 0, 0, 0)
  | .ldunc => (0x96, 0, 0, 0)
  | .ldunci => (0x97, 0, 0, 0)
  | .ldvts => (0x98, 0, 0, 0)
  | .ldvtsi => (0x99, 0, 0, 0)
  | .preld => (0x9A, 0, 0, 0)
  | .preldi => (0x9B, 0, 0, 0)
  | .prego => (0x9C, 0, 0, 0)
  | .pregoi => (0x9D, 0, 0, 0)
  | .go => (0x9E, 0, 0, 0)
  | .goi => (0x9F, 0, 0, 0)
  | .stsf => (0xB0, 0, 0, 0)
  | .stsfi => (0xB1, 0, 0, 0)
  | .stunc => (0xB6, 0, 0, 0)
  | .stunci => (0xB7, 0, 0, 0)
  | .syncd => (0xB8, 0, 0, 0)
  | .syncdi => (0xB9, 0, 0, 0)
  | .prest => (0xBA, 0, 0, 0)
  | .presti => (0xBB, 0, 0, 0)
  | .syncid => (0xBC, 0, 0, 0)
  | .syncidi => (0xBD, 0, 0, 0)
  | .pushgo => (0xBE, 0, 0, 0)
  | .pushgoi => (0xBF, 0, 0, 0)
  | .jmp => (0xF0, 0, 0, 0)
  | .jmpb => (0xF1, 0, 0, 0)
  | .pushj => (0xF2, 0, 0, 0)
  | .pushjb => (0xF3, 0, 0, 0)
  | .geta => (0xF4, 0, 0, 0)
  | .getab => (0xF5, 0, 0, 0)
  | .put => (0xF6, 0, 0, 0)
  | .puti => (0xF7, 0, 0, 0)
  | .pop => (0xF8, 0, 0, 0)
  | .resume => (0xF9, 0, 0, 0)
  | .save => (0xFA, 0, 0, 0)
  | .unsave => (0xFB, 0, 0, 0)
  | .sync => (0xFC, 0, 0, 0)
  | .swym => (0xFD, 0, 0, 0)
  | .get => (0xFE, 0, 0, 0)
  | .trip => (0xFF, 0, 0, 0)

/-- The operation code of an instruction (30_encoding.md R71). -/
def opcode (i : Instr) : Byte := (encodeFields i).1

/-- The tetrabyte of an instruction. -/
def encode (i : Instr) : Tetra :=
  tetraOfFields (encodeFields i).1 (encodeFields i).2.1 (encodeFields i).2.2.1 (encodeFields i).2.2.2

/-- The four bytes of an instruction as memory holds them. -/
def encodeBytes (i : Instr) : List Byte := tetraBytes (encode i)

/-! ## The names of the chart (30_encoding.md R71) -/

/-- The names of the operation codes #00 to #3F. -/
def chartNames00 : List String :=
   ["TRAP", "FCMP", "FUN", "FEQL", "FADD", "FIX", "FSUB", "FIXU",
    "FLOT", "FLOTI", "FLOTU", "FLOTUI", "SFLOT", "SFLOTI", "SFLOTU", "SFLOTUI",
    "FMUL", "FCMPE", "FUNE", "FEQLE", "FDIV", "FSQRT", "FREM", "FINT",
    "MUL", "MULI", "MULU", "MULUI", "DIV", "DIVI", "DIVU", "DIVUI",
    "ADD", "ADDI", "ADDU", "ADDUI", "SUB", "SUBI", "SUBU", "SUBUI",
    "2ADDU", "2ADDUI", "4ADDU", "4ADDUI", "8ADDU", "8ADDUI", "16ADDU", "16ADDUI",
    "CMP", "CMPI", "CMPU", "CMPUI", "NEG", "NEGI", "NEGU", "NEGUI",
    "SL", "SLI", "SLU", "SLUI", "SR", "SRI", "SRU", "SRUI"]

/-- The names of the operation codes #40 to #7F. -/
def chartNames40 : List String :=
   ["BN", "BNB", "BZ", "BZB", "BP", "BPB", "BOD", "BODB",
    "BNN", "BNNB", "BNZ", "BNZB", "BNP", "BNPB", "BEV", "BEVB",
    "PBN", "PBNB", "PBZ", "PBZB", "PBP", "PBPB", "PBOD", "PBODB",
    "PBNN", "PBNNB", "PBNZ", "PBNZB", "PBNP", "PBNPB", "PBEV", "PBEVB",
    "CSN", "CSNI", "CSZ", "CSZI", "CSP", "CSPI", "CSOD", "CSODI",
    "CSNN", "CSNNI", "CSNZ", "CSNZI", "CSNP", "CSNPI", "CSEV", "CSEVI",
    "ZSN", "ZSNI", "ZSZ", "ZSZI", "ZSP", "ZSPI", "ZSOD", "ZSODI",
    "ZSNN", "ZSNNI", "ZSNZ", "ZSNZI", "ZSNP", "ZSNPI", "ZSEV", "ZSEVI"]

/-- The names of the operation codes #80 to #BF. -/
def chartNames80 : List String :=
   ["LDB", "LDBI", "LDBU", "LDBUI", "LDW", "LDWI", "LDWU", "LDWUI",
    "LDT", "LDTI", "LDTU", "LDTUI", "LDO", "LDOI", "LDOU", "LDOUI",
    "LDSF", "LDSFI", "LDHT", "LDHTI", "CSWAP", "CSWAPI", "LDUNC", "LDUNCI",
    "LDVTS", "LDVTSI", "PRELD", "PRELDI", "PREGO", "PREGOI", "GO", "GOI",
    "STB", "STBI", "STBU", "STBUI", "STW", "STWI", "STWU", "STWUI",
    "STT", "STTI", "STTU", "STTUI", "STO", "STOI", "STOU", "STOUI",
    "STSF", "STSFI", "STHT", "STHTI", "STCO", "STCOI", "STUNC", "STUNCI",
    "SYNCD", "SYNCDI", "PREST", "PRESTI", "SYNCID", "SYNCIDI", "PUSHGO", "PUSHGOI"]

/-- The names of the operation codes #C0 to #FF. -/
def chartNamesC0 : List String :=
   ["OR", "ORI", "ORN", "ORNI", "NOR", "NORI", "XOR", "XORI",
    "AND", "ANDI", "ANDN", "ANDNI", "NAND", "NANDI", "NXOR", "NXORI",
    "BDIF", "BDIFI", "WDIF", "WDIFI", "TDIF", "TDIFI", "ODIF", "ODIFI",
    "MUX", "MUXI", "SADD", "SADDI", "MOR", "MORI", "MXOR", "MXORI",
    "SETH", "SETMH", "SETML", "SETL", "INCH", "INCMH", "INCML", "INCL",
    "ORH", "ORMH", "ORML", "ORL", "ANDNH", "ANDNMH", "ANDNML", "ANDNL",
    "JMP", "JMPB", "PUSHJ", "PUSHJB", "GETA", "GETAB", "PUT", "PUTI",
    "POP", "RESUME", "SAVE", "UNSAVE", "SYNC", "SWYM", "GET", "TRIP"]

/-- The name the chart gives an operation code. -/
def chartName (op : Byte) : String :=
  (chartNames00 ++ chartNames40 ++ chartNames80 ++ chartNamesC0).getD op.toNat ""

/-- The row's mnemonic in spec/opcode_table.json. -/
def mnemonic : Instr → String
  | .add _ _ _ => "ADD"
  | .addi _ _ _ => "ADDI"
  | .addu _ _ _ => "ADDU"
  | .addui _ _ _ => "ADDUI"
  | .sub _ _ _ => "SUB"
  | .subi _ _ _ => "SUBI"
  | .subu _ _ _ => "SUBU"
  | .subui _ _ _ => "SUBUI"
  | .addu2 _ _ _ => "2ADDU"
  | .addu2i _ _ _ => "2ADDUI"
  | .addu4 _ _ _ => "4ADDU"
  | .addu4i _ _ _ => "4ADDUI"
  | .addu8 _ _ _ => "8ADDU"
  | .addu8i _ _ _ => "8ADDUI"
  | .addu16 _ _ _ => "16ADDU"
  | .addu16i _ _ _ => "16ADDUI"
  | .cmp _ _ _ => "CMP"
  | .cmpi _ _ _ => "CMPI"
  | .cmpu _ _ _ => "CMPU"
  | .cmpui _ _ _ => "CMPUI"
  | .neg _ _ _ => "NEG"
  | .negi _ _ _ => "NEGI"
  | .negu _ _ _ => "NEGU"
  | .negui _ _ _ => "NEGUI"
  | .sl _ _ _ => "SL"
  | .sli _ _ _ => "SLI"
  | .slu _ _ _ => "SLU"
  | .slui _ _ _ => "SLUI"
  | .sr _ _ _ => "SR"
  | .sri _ _ _ => "SRI"
  | .sru _ _ _ => "SRU"
  | .srui _ _ _ => "SRUI"
  | .bn _ _ => "BN"
  | .bnb _ _ => "BNB"
  | .bz _ _ => "BZ"
  | .bzb _ _ => "BZB"
  | .bp _ _ => "BP"
  | .bpb _ _ => "BPB"
  | .bod _ _ => "BOD"
  | .bodb _ _ => "BODB"
  | .bnn _ _ => "BNN"
  | .bnnb _ _ => "BNNB"
  | .bnz _ _ => "BNZ"
  | .bnzb _ _ => "BNZB"
  | .bnp _ _ => "BNP"
  | .bnpb _ _ => "BNPB"
  | .bev _ _ => "BEV"
  | .bevb _ _ => "BEVB"
  | .pbn _ _ => "PBN"
  | .pbnb _ _ => "PBNB"
  | .pbz _ _ => "PBZ"
  | .pbzb _ _ => "PBZB"
  | .pbp _ _ => "PBP"
  | .pbpb _ _ => "PBPB"
  | .pbod _ _ => "PBOD"
  | .pbodb _ _ => "PBODB"
  | .pbnn _ _ => "PBNN"
  | .pbnnb _ _ => "PBNNB"
  | .pbnz _ _ => "PBNZ"
  | .pbnzb _ _ => "PBNZB"
  | .pbnp _ _ => "PBNP"
  | .pbnpb _ _ => "PBNPB"
  | .pbev _ _ => "PBEV"
  | .pbevb _ _ => "PBEVB"
  | .csn _ _ _ => "CSN"
  | .csni _ _ _ => "CSNI"
  | .csz _ _ _ => "CSZ"
  | .cszi _ _ _ => "CSZI"
  | .csp _ _ _ => "CSP"
  | .cspi _ _ _ => "CSPI"
  | .csod _ _ _ => "CSOD"
  | .csodi _ _ _ => "CSODI"
  | .csnn _ _ _ => "CSNN"
  | .csnni _ _ _ => "CSNNI"
  | .csnz _ _ _ => "CSNZ"
  | .csnzi _ _ _ => "CSNZI"
  | .csnp _ _ _ => "CSNP"
  | .csnpi _ _ _ => "CSNPI"
  | .csev _ _ _ => "CSEV"
  | .csevi _ _ _ => "CSEVI"
  | .zsn _ _ _ => "ZSN"
  | .zsni _ _ _ => "ZSNI"
  | .zsz _ _ _ => "ZSZ"
  | .zszi _ _ _ => "ZSZI"
  | .zsp _ _ _ => "ZSP"
  | .zspi _ _ _ => "ZSPI"
  | .zsod _ _ _ => "ZSOD"
  | .zsodi _ _ _ => "ZSODI"
  | .zsnn _ _ _ => "ZSNN"
  | .zsnni _ _ _ => "ZSNNI"
  | .zsnz _ _ _ => "ZSNZ"
  | .zsnzi _ _ _ => "ZSNZI"
  | .zsnp _ _ _ => "ZSNP"
  | .zsnpi _ _ _ => "ZSNPI"
  | .zsev _ _ _ => "ZSEV"
  | .zsevi _ _ _ => "ZSEVI"
  | .ldb _ _ _ => "LDB"
  | .ldbi _ _ _ => "LDBI"
  | .ldbu _ _ _ => "LDBU"
  | .ldbui _ _ _ => "LDBUI"
  | .ldw _ _ _ => "LDW"
  | .ldwi _ _ _ => "LDWI"
  | .ldwu _ _ _ => "LDWU"
  | .ldwui _ _ _ => "LDWUI"
  | .ldt _ _ _ => "LDT"
  | .ldti _ _ _ => "LDTI"
  | .ldtu _ _ _ => "LDTU"
  | .ldtui _ _ _ => "LDTUI"
  | .ldo _ _ _ => "LDO"
  | .ldoi _ _ _ => "LDOI"
  | .ldou _ _ _ => "LDOU"
  | .ldoui _ _ _ => "LDOUI"
  | .ldht _ _ _ => "LDHT"
  | .ldhti _ _ _ => "LDHTI"
  | .stb _ _ _ => "STB"
  | .stbi _ _ _ => "STBI"
  | .stbu _ _ _ => "STBU"
  | .stbui _ _ _ => "STBUI"
  | .stw _ _ _ => "STW"
  | .stwi _ _ _ => "STWI"
  | .stwu _ _ _ => "STWU"
  | .stwui _ _ _ => "STWUI"
  | .stt _ _ _ => "STT"
  | .stti _ _ _ => "STTI"
  | .sttu _ _ _ => "STTU"
  | .sttui _ _ _ => "STTUI"
  | .sto _ _ _ => "STO"
  | .stoi _ _ _ => "STOI"
  | .stou _ _ _ => "STOU"
  | .stoui _ _ _ => "STOUI"
  | .stht _ _ _ => "STHT"
  | .sthti _ _ _ => "STHTI"
  | .stco _ _ _ => "STCO"
  | .stcoi _ _ _ => "STCOI"
  | .or _ _ _ => "OR"
  | .ori _ _ _ => "ORI"
  | .orn _ _ _ => "ORN"
  | .orni _ _ _ => "ORNI"
  | .nor _ _ _ => "NOR"
  | .nori _ _ _ => "NORI"
  | .xor _ _ _ => "XOR"
  | .xori _ _ _ => "XORI"
  | .and _ _ _ => "AND"
  | .andi _ _ _ => "ANDI"
  | .andn _ _ _ => "ANDN"
  | .andni _ _ _ => "ANDNI"
  | .nand _ _ _ => "NAND"
  | .nandi _ _ _ => "NANDI"
  | .nxor _ _ _ => "NXOR"
  | .nxori _ _ _ => "NXORI"
  | .bdif _ _ _ => "BDIF"
  | .bdifi _ _ _ => "BDIFI"
  | .wdif _ _ _ => "WDIF"
  | .wdifi _ _ _ => "WDIFI"
  | .tdif _ _ _ => "TDIF"
  | .tdifi _ _ _ => "TDIFI"
  | .odif _ _ _ => "ODIF"
  | .odifi _ _ _ => "ODIFI"
  | .mux _ _ _ => "MUX"
  | .muxi _ _ _ => "MUXI"
  | .sadd _ _ _ => "SADD"
  | .saddi _ _ _ => "SADDI"
  | .mor _ _ _ => "MOR"
  | .mori _ _ _ => "MORI"
  | .mxor _ _ _ => "MXOR"
  | .mxori _ _ _ => "MXORI"
  | .seth _ _ => "SETH"
  | .setmh _ _ => "SETMH"
  | .setml _ _ => "SETML"
  | .setl _ _ => "SETL"
  | .inch _ _ => "INCH"
  | .incmh _ _ => "INCMH"
  | .incml _ _ => "INCML"
  | .incl _ _ => "INCL"
  | .orh _ _ => "ORH"
  | .ormh _ _ => "ORMH"
  | .orml _ _ => "ORML"
  | .orl _ _ => "ORL"
  | .andnh _ _ => "ANDNH"
  | .andnmh _ _ => "ANDNMH"
  | .andnml _ _ => "ANDNML"
  | .andnl _ _ => "ANDNL"
  | .trap => "TRAP"
  | .fcmp => "FCMP"
  | .fun_ => "FUN"
  | .feql => "FEQL"
  | .fadd => "FADD"
  | .fix => "FIX"
  | .fsub => "FSUB"
  | .fixu => "FIXU"
  | .flot => "FLOT"
  | .floti => "FLOTI"
  | .flotu => "FLOTU"
  | .flotui => "FLOTUI"
  | .sflot => "SFLOT"
  | .sfloti => "SFLOTI"
  | .sflotu => "SFLOTU"
  | .sflotui => "SFLOTUI"
  | .fmul => "FMUL"
  | .fcmpe => "FCMPE"
  | .fune => "FUNE"
  | .feqle => "FEQLE"
  | .fdiv => "FDIV"
  | .fsqrt => "FSQRT"
  | .frem => "FREM"
  | .fint => "FINT"
  | .mul => "MUL"
  | .muli => "MULI"
  | .mulu => "MULU"
  | .mului => "MULUI"
  | .div => "DIV"
  | .divi => "DIVI"
  | .divu => "DIVU"
  | .divui => "DIVUI"
  | .ldsf => "LDSF"
  | .ldsfi => "LDSFI"
  | .cswap => "CSWAP"
  | .cswapi => "CSWAPI"
  | .ldunc => "LDUNC"
  | .ldunci => "LDUNCI"
  | .ldvts => "LDVTS"
  | .ldvtsi => "LDVTSI"
  | .preld => "PRELD"
  | .preldi => "PRELDI"
  | .prego => "PREGO"
  | .pregoi => "PREGOI"
  | .go => "GO"
  | .goi => "GOI"
  | .stsf => "STSF"
  | .stsfi => "STSFI"
  | .stunc => "STUNC"
  | .stunci => "STUNCI"
  | .syncd => "SYNCD"
  | .syncdi => "SYNCDI"
  | .prest => "PREST"
  | .presti => "PRESTI"
  | .syncid => "SYNCID"
  | .syncidi => "SYNCIDI"
  | .pushgo => "PUSHGO"
  | .pushgoi => "PUSHGOI"
  | .jmp => "JMP"
  | .jmpb => "JMPB"
  | .pushj => "PUSHJ"
  | .pushjb => "PUSHJB"
  | .geta => "GETA"
  | .getab => "GETAB"
  | .put => "PUT"
  | .puti => "PUTI"
  | .pop => "POP"
  | .resume => "RESUME"
  | .save => "SAVE"
  | .unsave => "UNSAVE"
  | .sync => "SYNC"
  | .swym => "SWYM"
  | .get => "GET"
  | .trip => "TRIP"

/-- The operation codes that no source defines, 74 of the 256 (30_encoding.md R71, R75). -/
def outOfScope (op : Byte) : Bool :=
  op.toNat < 0x20 || op.toNat == 0x90 || op.toNat == 0x91 || (0x94 ≤ op.toNat && op.toNat ≤ 0x9F)
    || op.toNat == 0xB0 || op.toNat == 0xB1 || (0xB6 ≤ op.toNat && op.toNat ≤ 0xBF)
    || 0xF0 ≤ op.toNat

/-! ## Names of the assembler that are no operation codes of their own (30_encoding.md R80 to R84) -/

/-- `LDA $X,$Y,$Z` "is simply another name for the ADDU instruction" (30_encoding.md R81). -/
def assembleLda (x y z : Reg) : Instr := .addu x y z

/-- `LDA $X,$Y,Z`, the immediate form of ADDU (30_encoding.md R81). -/
def assembleLdaImmediate (x y : Reg) (z : Byte) : Instr := .addui x y z

/-- `SET $X,$Y` is "a convenient abbreviation for OR $X,$Y,0" (30_encoding.md R80). -/
def assembleSet (x y : Reg) : Instr := .ori x y 0

/-- A branch in location `loc` to the target `l` (30_encoding.md R82): the displacement is
δ = floor((l - loc) / 4); the forward code with YZ = δ if δ is nonnegative, the backward code with
YZ = 2^16 + δ if it is negative. The source says no more of a displacement out of range than "should", and
nothing of a target that is not a multiple of 4 away: both are refused, not truncated or rounded
(93_implementation_defined.md U14; log 26). -/
def assembleBranch (forward backward : Reg → Wyde → Instr) (x : Reg) (loc l : Word) : Option Instr :=
  let δ : Int := ((l.toNat : Int) - loc.toNat) / 4
  if ((l.toNat : Int) - loc.toNat) % 4 ≠ 0 then none
  else if 0 ≤ δ then
    if δ < 2 ^ 16 then some (forward x (BitVec.ofInt 16 δ)) else none
  else
    if -(2 ^ 16) ≤ δ then some (backward x (BitVec.ofInt 16 (2 ^ 16 + δ))) else none

end Sys2Proof
end

