-- ==== Sys2Proof/Machine/Fetch.lean ====
section
/-! DEFINITION. Fetching an instruction (10_state.md R25, 70_reset_and_hazards.md R282), and the launch
of a program (10_state.md R33, 70_reset_and_hazards.md R280). -/

namespace Sys2Proof.Machine

/-- The address the fetch uses: `align(pc, 4)`; the two low bits of `pc` take no part (10_state.md R25,
20_memory.md R42; log 11). -/
def State.location (s : State) : Nat := align s.pc.toNat 4

/-- The location is in `EXIT` (70_reset_and_hazards.md R282). -/
def State.atExit (s : State) : Bool := s.env.exit.contains s.location

/-- The location is in `TEXT` (70_reset_and_hazards.md R282). -/
def State.inText (s : State) : Bool := s.env.text.contains s.location

/-- The tetrabyte `M_4[pc]` (10_state.md R25, 30_encoding.md R60), or the first address of it whose byte
holds no value. -/
def State.fetch (s : State) : Except Nat Tetra :=
  match s.mem.readBytes s.location 4 with
  | .error a => .error a
  | .ok bytes => .ok (BitVec.ofNat 32 (numberOfBytes bytes))

/-- A memory with the tetrabyte t at address a, most significant byte first (20_memory.md R41). -/
def Memory.writeTetra (m : Memory) (a : Nat) (t : Tetra) : Memory := m.writeBytes a (tetraBytes t)

/-- The environment with address a in `TEXT` and not in `EXIT`. -/
def Env.withTextAt (e : Env) (a : Nat) : Env :=
  { e with text := if e.text.contains a then e.text else a :: e.text
           exit := e.exit.filter (· != a) }

/-- The state with the tetrabyte t loaded as the program's word at the location of the next fetch. -/
def State.withTetraAtPc (s : State) (t : Tetra) : State :=
  { s with mem := s.mem.writeTetra s.location t, env := s.env.withTextAt s.location }

/-- The registers that a launch gives a value hold it; the others hold the value of log 1. -/
def launchRegisters (l : Launch) : Vector Word 256 :=
  l.initReg.foldr (fun p regs => regs.set p.1.val p.2) (Vector.replicate 256 Config.unsetRegister)

/-- The bytes that a launch gives a value: `INIT_MEM`, and over it the program's bytes
(10_state.md R33). -/
def launchMemory (l : Launch) : Memory :=
  l.text.foldr (fun p m => Memory.writeTetra m p.1 p.2)
    (l.initMem.foldr (fun p m => Memory.write m p.1 p.2) [])

/-- The state at the start of a run: the parameters of 00_scope.md R6 laid out by the table of
10_state.md R33 (70_reset_and_hazards.md R280). -/
def State.ofLaunch (l : Launch) : State where
  regs := launchRegisters l
  pc := l.initPc
  rM := l.initRm.getD Config.unsetRm
  mem := launchMemory l
  ovf := false
  env := ⟨l.text.map (·.1), l.exit, l.mapped, l.overflowResponse⟩

end Sys2Proof.Machine
end

