-- ==== Sys2Proof/Machine/Step.lean ====
section
/-! DEFINITION. One step of the machine, in the order of checks of 60_exceptions.md R265. -/

namespace Sys2Proof.Machine

/-- One step (60_exceptions.md R265, 70_reset_and_hazards.md R282): at an address of `EXIT` the run has
ended; outside `TEXT` the agent is stuck; otherwise the tetrabyte at the location is decoded and
executed. -/
def step (s : State) : Host.Outcome State Fault Refusal :=
  if s.atExit then .fault (.runEnded s)
  else if s.inText then
    match s.fetch with
    | .error a => .fault (.unwrittenByte a)
    | .ok t => exec (decode t) s
  else .fault (.fetchOutsideText s.pc)

/-- The state with the instruction of a row of spec/opcode_table.json loaded as the program's word at
the location of the next fetch (log 6). -/
def State.withFetchWord (s : State) (nbits w : Nat) : State :=
  s.withTetraAtPc (BitVec.ofNat 32 (w % 2 ^ nbits))

end Sys2Proof.Machine
end

