-- ==== Sys2Proof/Safety.lean ====
section
/-! DEFINITION. The terms that claims about the machine use: what an instruction may write, what an
instruction does to the whole state, the invariant of every run, and which outcomes are no failure. -/

namespace Sys2Proof.Machine

/-! ## What an instruction names -/

/-- The general register an instruction writes: `$X` of every in-scope instruction except the stores and
the branches (10_state.md R23). -/
def destination : Instr → Option Reg
  | .add x _ _ => some x
  | .addi x _ _ => some x
  | .addu x _ _ => some x
  | .addui x _ _ => some x
  | .sub x _ _ => some x
  | .subi x _ _ => some x
  | .subu x _ _ => some x
  | .subui x _ _ => some x
  | .addu2 x _ _ => some x
  | .addu2i x _ _ => some x
  | .addu4 x _ _ => some x
  | .addu4i x _ _ => some x
  | .addu8 x _ _ => some x
  | .addu8i x _ _ => some x
  | .addu16 x _ _ => some x
  | .addu16i x _ _ => some x
  | .cmp x _ _ => some x
  | .cmpi x _ _ => some x
  | .cmpu x _ _ => some x
  | .cmpui x _ _ => some x
  | .neg x _ _ => some x
  | .negi x _ _ => some x
  | .negu x _ _ => some x
  | .negui x _ _ => some x
  | .sl x _ _ => some x
  | .sli x _ _ => some x
  | .slu x _ _ => some x
  | .slui x _ _ => some x
  | .sr x _ _ => some x
  | .sri x _ _ => some x
  | .sru x _ _ => some x
  | .srui x _ _ => some x
  | .csn x _ _ => some x
  | .csni x _ _ => some x
  | .csz x _ _ => some x
  | .cszi x _ _ => some x
  | .csp x _ _ => some x
  | .cspi x _ _ => some x
  | .csod x _ _ => some x
  | .csodi x _ _ => some x
  | .csnn x _ _ => some x
  | .csnni x _ _ => some x
  | .csnz x _ _ => some x
  | .csnzi x _ _ => some x
  | .csnp x _ _ => some x
  | .csnpi x _ _ => some x
  | .csev x _ _ => some x
  | .csevi x _ _ => some x
  | .zsn x _ _ => some x
  | .zsni x _ _ => some x
  | .zsz x _ _ => some x
  | .zszi x _ _ => some x
  | .zsp x _ _ => some x
  | .zspi x _ _ => some x
  | .zsod x _ _ => some x
  | .zsodi x _ _ => some x
  | .zsnn x _ _ => some x
  | .zsnni x _ _ => some x
  | .zsnz x _ _ => some x
  | .zsnzi x _ _ => some x
  | .zsnp x _ _ => some x
  | .zsnpi x _ _ => some x
  | .zsev x _ _ => some x
  | .zsevi x _ _ => some x
  | .ldb x _ _ => some x
  | .ldbi x _ _ => some x
  | .ldbu x _ _ => some x
  | .ldbui x _ _ => some x
  | .ldw x _ _ => some x
  | .ldwi x _ _ => some x
  | .ldwu x _ _ => some x
  | .ldwui x _ _ => some x
  | .ldt x _ _ => some x
  | .ldti x _ _ => some x
  | .ldtu x _ _ => some x
  | .ldtui x _ _ => some x
  | .ldo x _ _ => some x
  | .ldoi x _ _ => some x
  | .ldou x _ _ => some x
  | .ldoui x _ _ => some x
  | .ldht x _ _ => some x
  | .ldhti x _ _ => some x
  | .or x _ _ => some x
  | .ori x _ _ => some x
  | .orn x _ _ => some x
  | .orni x _ _ => some x
  | .nor x _ _ => some x
  | .nori x _ _ => some x
  | .xor x _ _ => some x
  | .xori x _ _ => some x
  | .and x _ _ => some x
  | .andi x _ _ => some x
  | .andn x _ _ => some x
  | .andni x _ _ => some x
  | .nand x _ _ => some x
  | .nandi x _ _ => some x
  | .nxor x _ _ => some x
  | .nxori x _ _ => some x
  | .bdif x _ _ => some x
  | .bdifi x _ _ => some x
  | .wdif x _ _ => some x
  | .wdifi x _ _ => some x
  | .tdif x _ _ => some x
  | .tdifi x _ _ => some x
  | .odif x _ _ => some x
  | .odifi x _ _ => some x
  | .mux x _ _ => some x
  | .muxi x _ _ => some x
  | .sadd x _ _ => some x
  | .saddi x _ _ => some x
  | .mor x _ _ => some x
  | .mori x _ _ => some x
  | .mxor x _ _ => some x
  | .mxori x _ _ => some x
  | .seth x _ => some x
  | .setmh x _ => some x
  | .setml x _ => some x
  | .setl x _ => some x
  | .inch x _ => some x
  | .incmh x _ => some x
  | .incml x _ => some x
  | .incl x _ => some x
  | .orh x _ => some x
  | .ormh x _ => some x
  | .orml x _ => some x
  | .orl x _ => some x
  | .andnh x _ => some x
  | .andnmh x _ => some x
  | .andnml x _ => some x
  | .andnl x _ => some x
  | _ => none

/-- The address and the number of bytes that a load reads (40_load_store.md R90 to R99). -/
def loadedAccess : Instr → State → Option (Nat × Nat)
  | .ldb _ y z, s => some (accessAddress (effectiveAddress (s.reg y) (s.reg z)) .byte, 1)
  | .ldbi _ y z, s => some (accessAddress (effectiveAddress (s.reg y) (immediate z)) .byte, 1)
  | .ldbu _ y z, s => some (accessAddress (effectiveAddress (s.reg y) (s.reg z)) .byte, 1)
  | .ldbui _ y z, s => some (accessAddress (effectiveAddress (s.reg y) (immediate z)) .byte, 1)
  | .ldw _ y z, s => some (accessAddress (effectiveAddress (s.reg y) (s.reg z)) .wyde, 2)
  | .ldwi _ y z, s => some (accessAddress (effectiveAddress (s.reg y) (immediate z)) .wyde, 2)
  | .ldwu _ y z, s => some (accessAddress (effectiveAddress (s.reg y) (s.reg z)) .wyde, 2)
  | .ldwui _ y z, s => some (accessAddress (effectiveAddress (s.reg y) (immediate z)) .wyde, 2)
  | .ldt _ y z, s => some (accessAddress (effectiveAddress (s.reg y) (s.reg z)) .tetra, 4)
  | .ldti _ y z, s => some (accessAddress (effectiveAddress (s.reg y) (immediate z)) .tetra, 4)
  | .ldtu _ y z, s => some (accessAddress (effectiveAddress (s.reg y) (s.reg z)) .tetra, 4)
  | .ldtui _ y z, s => some (accessAddress (effectiveAddress (s.reg y) (immediate z)) .tetra, 4)
  | .ldo _ y z, s => some (accessAddress (effectiveAddress (s.reg y) (s.reg z)) .octa, 8)
  | .ldoi _ y z, s => some (accessAddress (effectiveAddress (s.reg y) (immediate z)) .octa, 8)
  | .ldou _ y z, s => some (accessAddress (effectiveAddress (s.reg y) (s.reg z)) .octa, 8)
  | .ldoui _ y z, s => some (accessAddress (effectiveAddress (s.reg y) (immediate z)) .octa, 8)
  | .ldht _ y z, s => some (accessAddress (effectiveAddress (s.reg y) (s.reg z)) .tetra, 4)
  | .ldhti _ y z, s => some (accessAddress (effectiveAddress (s.reg y) (immediate z)) .tetra, 4)
  | _, _ => none

/-- The address and the number of bytes that a store writes (40_load_store.md R90, R101 to R110). -/
def storedAccess : Instr → State → Option (Nat × Nat)
  | .stb _ y z, s => some (accessAddress (effectiveAddress (s.reg y) (s.reg z)) .byte, 1)
  | .stbi _ y z, s => some (accessAddress (effectiveAddress (s.reg y) (immediate z)) .byte, 1)
  | .stbu _ y z, s => some (accessAddress (effectiveAddress (s.reg y) (s.reg z)) .byte, 1)
  | .stbui _ y z, s => some (accessAddress (effectiveAddress (s.reg y) (immediate z)) .byte, 1)
  | .stw _ y z, s => some (accessAddress (effectiveAddress (s.reg y) (s.reg z)) .wyde, 2)
  | .stwi _ y z, s => some (accessAddress (effectiveAddress (s.reg y) (immediate z)) .wyde, 2)
  | .stwu _ y z, s => some (accessAddress (effectiveAddress (s.reg y) (s.reg z)) .wyde, 2)
  | .stwui _ y z, s => some (accessAddress (effectiveAddress (s.reg y) (immediate z)) .wyde, 2)
  | .stt _ y z, s => some (accessAddress (effectiveAddress (s.reg y) (s.reg z)) .tetra, 4)
  | .stti _ y z, s => some (accessAddress (effectiveAddress (s.reg y) (immediate z)) .tetra, 4)
  | .sttu _ y z, s => some (accessAddress (effectiveAddress (s.reg y) (s.reg z)) .tetra, 4)
  | .sttui _ y z, s => some (accessAddress (effectiveAddress (s.reg y) (immediate z)) .tetra, 4)
  | .sto _ y z, s => some (accessAddress (effectiveAddress (s.reg y) (s.reg z)) .octa, 8)
  | .stoi _ y z, s => some (accessAddress (effectiveAddress (s.reg y) (immediate z)) .octa, 8)
  | .stou _ y z, s => some (accessAddress (effectiveAddress (s.reg y) (s.reg z)) .octa, 8)
  | .stoui _ y z, s => some (accessAddress (effectiveAddress (s.reg y) (immediate z)) .octa, 8)
  | .stco _ y z, s => some (accessAddress (effectiveAddress (s.reg y) (s.reg z)) .octa, 8)
  | .stcoi _ y z, s => some (accessAddress (effectiveAddress (s.reg y) (immediate z)) .octa, 8)
  | .stht _ y z, s => some (accessAddress (effectiveAddress (s.reg y) (s.reg z)) .tetra, 4)
  | .sthti _ y z, s => some (accessAddress (effectiveAddress (s.reg y) (immediate z)) .tetra, 4)
  | _, _ => none

/-- The fourteen operation codes that can raise IntegerOverflow (60_exceptions.md R261). -/
def canOverflow : Instr → Bool
  | .stb _ _ _ => true
  | .stbi _ _ _ => true
  | .stw _ _ _ => true
  | .stwi _ _ _ => true
  | .stt _ _ _ => true
  | .stti _ _ _ => true
  | .add _ _ _ => true
  | .addi _ _ _ => true
  | .sub _ _ _ => true
  | .subi _ _ _ => true
  | .neg _ _ _ => true
  | .negi _ _ _ => true
  | .sl _ _ _ => true
  | .sli _ _ _ => true
  | _ => false

/-! ## What an instruction does to the whole state -/

/-- Register x becomes v; of everything but `pc` and `ovf`, nothing else changes. -/
structure WritesRegister (s t : State) (x : Reg) (v : Word) : Prop where
  value : t.reg x = v
  others : ∀ r, r ≠ x → t.reg r = s.reg r
  mask : t.rM = s.rM
  memory : ∀ a, t.mem.read a = s.mem.read a
  environment : t.env = s.env

/-- The n bytes from address a on become `bytes 0`, `bytes 1`, ...; of everything but `pc` and `ovf`,
nothing else changes. -/
structure WritesMemory (s t : State) (a n : Nat) (bytes : Nat → Byte) : Prop where
  stored : ∀ k, k < n → t.mem.read (a + k) = some (bytes k)
  others : ∀ b, b < a ∨ a + n ≤ b → t.mem.read b = s.mem.read b
  registers : ∀ r, t.reg r = s.reg r
  mask : t.rM = s.rM
  environment : t.env = s.env

/-- Of everything but `pc`, nothing changes. -/
structure WritesNothing (s t : State) : Prop where
  registers : ∀ r, t.reg r = s.reg r
  mask : t.rM = s.rM
  memory : ∀ a, t.mem.read a = s.mem.read a
  overflow : t.ovf = s.ovf
  environment : t.env = s.env

/-- The instruction i has operation code op, completes in s, writes v to register x and nothing else, and
leaves `pc` at the next instruction. -/
def Sets (op : Byte) (i : Instr) (s : State) (x : Reg) (v : Word) : Prop :=
  opcode i = op ∧ ∃ t, exec i s = .next t ∧ WritesRegister s t x v ∧ t.ovf = s.ovf ∧ t.pc = s.pc + 4

/-- The instruction i has operation code op, makes the writes that `writes` describes and then raises
IntegerOverflow exactly if `overflow` holds (60_exceptions.md R262, R263): if not, it completes with
`ovf` unchanged; under `record` it completes with `ovf` set; under `fault` the run ends at the
instruction's own location, the writes made. -/
def Signals (op : Byte) (i : Instr) (s : State) (writes : State → Prop) (overflow : Prop) : Prop :=
  opcode i = op ∧
  (¬ overflow → ∃ t, exec i s = .next t ∧ writes t ∧ t.ovf = s.ovf ∧ t.pc = s.pc + 4) ∧
  (overflow → s.env.overflowResponse = .record →
    ∃ t, exec i s = .next t ∧ writes t ∧ t.ovf = true ∧ t.pc = s.pc + 4) ∧
  (overflow → s.env.overflowResponse = .fault →
    ∃ t, exec i s = .fault (.integerOverflow s.pc t) ∧ writes t ∧ t.ovf = s.ovf ∧ t.pc = s.pc)

/-- The instruction i has operation code op, completes in s, and changes nothing but `pc`, which becomes
`target`. -/
def Goes (op : Byte) (i : Instr) (s : State) (target : Word) : Prop :=
  opcode i = op ∧ ∃ t, exec i s = .next t ∧ WritesNothing s t ∧ t.pc = target

/-! ## Memory as a claim sees it -/

/-- The number that n bytes hold, `b 0` the most significant (20_memory.md R40). -/
def bigEndian (b : Nat → Byte) : Nat → Nat
  | 0 => 0
  | n + 1 => bigEndian b n * 256 + (b n).toNat

/-- Every one of the n bytes from address a on is in `MAPPED` (20_memory.md R49). -/
def Mapped (s : State) (a n : Nat) : Prop :=
  ∀ k, k < n → ∃ r ∈ s.env.mapped, r.first ≤ a + k ∧ a + k ≤ r.last

/-- One of the n bytes from address a on belongs to a tetrabyte of `TEXT` (20_memory.md R49). -/
def MeetsText (s : State) (a n : Nat) : Prop :=
  ∃ k, k < n ∧ a + k - (a + k) % 4 ∈ s.env.text

/-- The n bytes from address a on hold the values `b 0`, `b 1`, .... -/
def Holds (s : State) (a n : Nat) (b : Nat → Byte) : Prop :=
  ∀ k, k < n → s.mem.read (a + k) = some (b k)

/-! ## The two forms of a mnemonic

`BothForms` says one thing of the register form and of the immediate form; it is a relation between the
operation code, the instruction, the state, the registers X and Y and the value of the second operand. -/

/-- What `claim` says holds of the register form, whose second operand is `$Z`, and of the immediate
form, whose second operand is the constant Z with zeros before it (30_encoding.md R62, R63). -/
def BothForms (opRegister opImmediate : Byte) (register : Reg → Reg → Reg → Instr)
    (immediateForm : Reg → Reg → Byte → Instr)
    (claim : Byte → Instr → State → Reg → Reg → Word → Prop) : Prop :=
  ∀ s x y, (∀ z : Reg, claim opRegister (register x y z) s x y (s.reg z)) ∧
    ∀ z : Byte, claim opImmediate (immediateForm x y z) s x y (z.setWidth 64)

/-- The instruction sets `$X` to a value that `value` relates to `$Y` and the second operand. -/
def Computes (value : Word → Word → Word → Prop) (op : Byte) (i : Instr) (s : State) (x y : Reg)
    (z : Word) : Prop :=
  ∃ v, value (s.reg y) z v ∧ Sets op i s x v

/-- The load sets `$X` to a value that `value` relates to the big-endian number of its bytes, if they are
mapped and hold values. -/
def LoadsAs (size : Size) (value : Nat → Word → Prop) (op : Byte) (i : Instr) (s : State) (x y : Reg)
    (z : Word) : Prop :=
  ∀ b, Mapped s (accessAddress (effectiveAddress (s.reg y) z) size) (sizeBytes size) →
    Holds s (accessAddress (effectiveAddress (s.reg y) z) size) (sizeBytes size) b →
    ∃ v, value (bigEndian b (sizeBytes size)) v ∧ Sets op i s x v

/-- Byte k, the most significant first, of the n low bytes of a value. -/
def byteOfValue (n : Nat) (v : Word) (k : Nat) : Byte := BitVec.ofNat 8 (v.toNat / 256 ^ (n - 1 - k))

/-- The store of `v` at the effective address of `y` and `z` completes, if its bytes are mapped and clear
of the program text; it writes them and nothing else. -/
def StoresValue (size : Size) (op : Byte) (i : Instr) (s : State) (v y z : Word) : Prop :=
  Mapped s (accessAddress (effectiveAddress y z) size) (sizeBytes size) →
  ¬ MeetsText s (accessAddress (effectiveAddress y z) size) (sizeBytes size) →
  opcode i = op ∧ ∃ t, exec i s = .next t ∧
    WritesMemory s t (accessAddress (effectiveAddress y z) size) (sizeBytes size)
      (byteOfValue (sizeBytes size) v) ∧ t.ovf = s.ovf ∧ t.pc = s.pc + 4

/-- The instruction stores the low bytes of `$X`. -/
def Stores (size : Size) (op : Byte) (i : Instr) (s : State) (x y : Reg) (z : Word) : Prop :=
  StoresValue size op i s (s.reg x) (s.reg y) z

/-- The instruction stores the low bytes of `$X` and signals overflow exactly if the signed value of `$X`
is not in the range of as many bits. -/
def StoresChecked (size : Size) (op : Byte) (i : Instr) (s : State) (x y : Reg) (z : Word) : Prop :=
  Mapped s (accessAddress (effectiveAddress (s.reg y) z) size) (sizeBytes size) →
  ¬ MeetsText s (accessAddress (effectiveAddress (s.reg y) z) size) (sizeBytes size) →
  Signals op i s
    (fun t => WritesMemory s t (accessAddress (effectiveAddress (s.reg y) z) size) (sizeBytes size)
      (byteOfValue (sizeBytes size) (s.reg x)))
    ((s.reg x).toInt < -(2 ^ (8 * sizeBytes size - 1)) ∨
      2 ^ (8 * sizeBytes size - 1) - 1 < (s.reg x).toInt)

/-- The instruction sets `$X` to the low 64 bits of an exact integer and signals overflow exactly if the
integer is not in the range of a signed octabyte. -/
def ComputesSigned (value : Word → Word → Int) (op : Byte) (i : Instr) (s : State) (x y : Reg)
    (z : Word) : Prop :=
  Signals op i s (fun t => WritesRegister s t x (BitVec.ofInt 64 (value (s.reg y) z)))
    (2 ^ 63 ≤ value (s.reg y) z ∨ value (s.reg y) z < -(2 ^ 63))

/-- The instruction sets `$X` to the second operand if the condition holds of `$Y`, and otherwise changes
nothing but `pc`. -/
def SetsIf (c : Word → Prop) (op : Byte) (i : Instr) (s : State) (x y : Reg) (z : Word) : Prop :=
  (c (s.reg y) → Sets op i s x z) ∧ (¬ c (s.reg y) → Goes op i s (s.pc + 4))

/-- The instruction sets `$X` to the second operand if the condition holds of `$Y`, and otherwise to
zero. -/
def SetsOrZero (c : Word → Prop) (op : Byte) (i : Instr) (s : State) (x y : Reg) (z : Word) : Prop :=
  (c (s.reg y) → Sets op i s x z) ∧ (¬ c (s.reg y) → Sets op i s x 0)

/-- The two instructions are branches on the condition c of `$X`, forward by YZ tetrabytes and backward
by 65536 - YZ tetrabytes (46_branch.md R230). -/
def Branches (opForward opBackward : Byte) (forward backward : Reg → Wyde → Instr)
    (c : Word → Prop) : Prop :=
  ∀ s x yz,
    (c (s.reg x) →
      Goes opForward (forward x yz) s (s.pc + BitVec.ofInt 64 (4 * (yz.toNat : Int))) ∧
      Goes opBackward (backward x yz) s (s.pc + BitVec.ofInt 64 (4 * ((yz.toNat : Int) - 65536)))) ∧
    (¬ c (s.reg x) →
      Goes opForward (forward x yz) s (s.pc + 4) ∧ Goes opBackward (backward x yz) s (s.pc + 4))

/-- The second instruction does what the first does, "except that no test for overflow is made". -/
def SameWithoutTest (tested untested : Instr) : Prop :=
  ∀ s t,
    (exec tested s = .next t → exec untested s = .next { t with ovf := s.ovf }) ∧
    (∀ l, exec tested s = .fault (.integerOverflow l t) → exec untested s = .next t.advance)

/-! ## Runs -/

/-- What holds in every state of a run that begins with a well-formed launch. -/
structure Inv (s : State) : Prop where
  /-- Memory is in canonical form. -/
  memory : s.mem.wf = true
  /-- `pc` is a multiple of 4 (10_state.md R26, 46_branch.md R249). -/
  pcAligned : s.pc.toNat % 4 = 0
  /-- `TEXT` is a set of multiples of 4 (00_scope.md R6). -/
  textAligned : ∀ a ∈ s.env.text, a % 4 = 0 ∧ a < 2 ^ 64
  /-- `EXIT` is a set of multiples of 4 disjoint from `TEXT` (00_scope.md R6). -/
  exitDisjoint : ∀ a ∈ s.env.exit, a % 4 = 0 ∧ a < 2 ^ 64 ∧ a ∉ s.env.text
  /-- The bytes of `TEXT` hold values (10_state.md R33). -/
  textHolds : ∀ a ∈ s.env.text, ∀ k, k < 4 → (s.mem.read (a + k)).isSome = true
  /-- Under `fault` there is no overflow bit to set (10_state.md R28). -/
  overflowBit : s.env.overflowResponse = .fault → s.ovf = false

/-- The outcomes that are no failure: a next state, or the end of the run (60_exceptions.md R276). -/
def noFailure : Result → Bool
  | .next _ => true
  | .fault (.runEnded _) => true
  | .fault _ => false
  | .refused _ => false

end Sys2Proof.Machine
end

