-- ==== Sys2Proof/WellFormed.lean ====
section
/-! DEFINITION. What makes an instruction and a launch well formed. Every check is a Bool that Lean
evaluates. -/

namespace Sys2Proof

/-- An instruction is always well formed: "Every value 0..255 of every field is legal in every
in-scope instruction" (30_encoding.md R61, R76), and the types of the operands hold nothing else. -/
def Instr.wellFormed (_ : Instr) : Bool := true

/-- A is a multiple of 4 below 2^64: the address of a tetrabyte. -/
def tetraAddress (a : Nat) : Bool := a % 4 == 0 && a < 2 ^ 64

/-- No two entries of a list are equal: a list of keys is that of a map. -/
def noRepeat {α : Type} [DecidableEq α] : List α → Bool
  | [] => true
  | a :: l => !l.contains a && noRepeat l

/-- `INIT_PC` is a multiple of 4 (00_scope.md R6). -/
def Launch.pcAligned (l : Launch) : Bool := l.initPc.toNat % 4 == 0

/-- The addresses of `TEXT` are multiples of 4, each given once (00_scope.md R6). -/
def Launch.textWellFormed (l : Launch) : Bool :=
  (l.text.map (·.1)).all tetraAddress && noRepeat (l.text.map (·.1))

/-- The addresses of `EXIT` are multiples of 4 (00_scope.md R6). -/
def Launch.exitWellFormed (l : Launch) : Bool := l.exit.all tetraAddress

/-- `EXIT` is disjoint from `TEXT` (00_scope.md R6). -/
def Launch.exitDisjoint (l : Launch) : Bool := l.exit.all fun a => !(l.text.map (·.1)).contains a

/-- `INIT_REG` gives a register at most one value (00_scope.md R6: a partial map). -/
def Launch.initRegWellFormed (l : Launch) : Bool := noRepeat (l.initReg.map (·.1))

/-- `INIT_MEM` gives a byte address of M at most one value (00_scope.md R6: a partial map). -/
def Launch.initMemWellFormed (l : Launch) : Bool :=
  l.initMem.all (fun c => c.1 < 2 ^ 64) && noRepeat (l.initMem.map (·.1))

/-- The ranges that stand for `MAPPED` lie in M, whose addresses end at 2^64 - 1 (10_state.md R31). -/
def Launch.mappedWellFormed (l : Launch) : Bool :=
  l.mapped.all fun r => r.first ≤ r.last && r.last < 2 ^ 64

/-- A launch the spec admits (00_scope.md R6). -/
def Launch.wellFormed (l : Launch) : Bool :=
  l.pcAligned && l.textWellFormed && l.exitWellFormed && l.exitDisjoint && l.initRegWellFormed
    && l.initMemWellFormed && l.mappedWellFormed

end Sys2Proof
end

