-- ==== Sys2Proof/Certificates/Slice0/Obligations.lean ====
section
/-! DEFINITION. The statements for the provers. The words they use, `BothForms`, `Computes`, `Sets`,
`Signals`, `Goes` and the others, are defined in Sys2Proof/Safety.lean.

What holds of every statement below that names them: the numbers of the operation codes, all but #20 and
#21, are the chart's (30_encoding.md R71, decision D15, PRESUMED, log 13), and `pc + 4` wraps modulo 2^64
(10_state.md R26, decision D5, log 12). D<n> is a decision of 92_eei_decisions.md, log <n> a row of
notes/assumptions. -/

open Sys2Proof Sys2Proof.Machine

/-- Decoding the encoding of any well-formed instruction gives it back (R60, R61, R71, R72, D15, log
13, log 25, log 27). The numbers and names of the operation codes, all but #20 and #21, are the
chart of R71: general knowledge, decision D15 of the spec, PRESUMED (log 13). That OP lies at
the lowest address is DEDUCED, D16 (log 25); that the out-of-scope instructions have no operands
is the model's choice (log 27). -/
def Obligations.DecodeOfEncode : Prop :=
  ∀ i : Instr, i.wellFormed = true →
    decode (encode i) = i ∧ decodeBytes (encodeBytes i) = .ok i

/-- Every word in scope is the encoding of the instruction it decodes to (R60, R71, R72, R75, R76,
D15, log 13). The numbers and names of the operation codes, all but #20 and #21, are the chart
of R71: general knowledge, decision D15 of the spec, PRESUMED (log 13). -/
def Obligations.EncodeOfDecode : Prop :=
  ∀ w : Tetra,
    (outOfScope (opByte w) = false → encode (decode w) = w) ∧ opcode (decode w) = opByte w

/-- Only the OP byte selects the instruction, by the chart (R71, R72, D15, log 13). The numbers and
names of the operation codes, all but #20 and #21, are the chart of R71: general knowledge,
decision D15 of the spec, PRESUMED (log 13). So the whole statement is about that chart. -/
def Obligations.OperationCodeSelectsTheRow : Prop :=
  ∀ w v : Tetra,
    mnemonic (decode w) = chartName (opByte w) ∧
    (opByte w = opByte v → mnemonic (decode w) = mnemonic (decode v))

/-- Words written out from the spec decode to their instructions (R60, R71, R80, R81, R82, R83, D15,
log 13). The numbers and names of the operation codes, all but #20 and #21, are the chart of
R71: general knowledge, decision D15 of the spec, PRESUMED (log 13). So every clause but the
first two rests on it. -/
def Obligations.WrittenWordsDecode : Prop :=
  decode 0x20010203 = .add 1 2 3 ∧
  decode 0x21010105 = .addi 1 1 5 ∧
  decode 0xAD030211 = .stoi 3 2 17 ∧
  decode 0xB5FF0110 = .stcoi 255 1 16 ∧
  decode 0x34010003 = .neg 1 0 3 ∧
  decode 0xC1010200 = .ori 1 2 0 ∧
  decode 0x31010207 = .cmpi 1 2 7 ∧
  decode 0x39010204 = .sli 1 2 4 ∧
  decode 0x61010205 = .csni 1 2 5 ∧
  decode 0x71010201 = .zsni 1 2 1 ∧
  decode 0xE501FFFF = .incmh 1 0xFFFF ∧
  decode 0x4A0303E8 = .bnz 3 1000 ∧
  decode 0x4702FC18 = .bodb 2 0xFC18 ∧
  decode 0x5702FC18 = .pbodb 2 0xFC18 ∧
  decode 0xFD000000 = .swym

/-- SET copies a register and LDA is ADDU (R80, R81, R84, R100). The numbers #22, #23 and #C1 are
the chart's, general knowledge, decision D15, PRESUMED (log 13). -/
def Obligations.AssemblerNames : Prop :=
  (∀ x y, encode (assembleSet x y) = tetraOfFields 0xC1 (byteOf x) (byteOf y) 0 ∧
      ∀ s, Sets 0xC1 (assembleSet x y) s x (s.reg y)) ∧
    (∀ x y z, assembleLda x y z = .addu x y z ∧ opcode (assembleLda x y z) = 0x22) ∧
    ∀ x y z, assembleLdaImmediate x y z = .addui x y z ∧ opcode (assembleLdaImmediate x y z) = 0x23

/-- A step executes the instruction that the four bytes at the location hold (R25, R41, R60, R265,
R282, log 11, log 17, log 25). That OP is the byte at the lowest address is an inference of the
spec, R41, D16, DEDUCED (log 25); TEXT and EXIT are its decisions D6 and D7 (log 17, log 10);
that the two low bits of pc take no part is DEDUCED (log 11). -/
def Obligations.StepRunsTheDecodedInstruction : Prop :=
  ∀ (s : State) (a : Nat) (op x y z : Byte) (i : Instr), a = s.pc.toNat - s.pc.toNat % 4 →
    a ∉ s.env.exit → a ∈ s.env.text →
    s.mem.read a = some op → s.mem.read (a + 1) = some x →
    s.mem.read (a + 2) = some y → s.mem.read (a + 3) = some z →
    decodeBytes [op, x, y, z] = .ok i → step s = exec i s

/-- A step at an exit ends the run, elsewhere outside the text it is stuck (R265, R276, R282, log 9,
log 10, log 11). TEXT and EXIT are the spec's decisions D6 and D7; that both stops are answered
as faults by name is the model's choice (log 9, log 10); that the two low bits of pc take no
part is DEDUCED (log 11). -/
def Obligations.StepOutsideTheProgram : Prop :=
  ∀ (s : State) (a : Nat), a = s.pc.toNat - s.pc.toNat % 4 →
    (a ∈ s.env.exit → step s = .fault (.runEnded s)) ∧
    (a ∉ s.env.exit → a ∉ s.env.text → step s = .fault (.fetchOutsideText s.pc))

/-- Each of the 74 operation codes out of scope is refused by number and name (R71, R75, D8, D15,
log 13, log 14). That these codes are refused is the spec's decision D8 (log 14); their numbers
and names are the chart's, D15, PRESUMED (log 13). -/
def Obligations.UnspecifiedCodesAreRefused : Prop :=
  ∀ e ∈ ([(.trap, 0x00, "TRAP"), (.fcmp, 0x01, "FCMP"), (.fun_, 0x02, "FUN"),
      (.feql, 0x03, "FEQL"), (.fadd, 0x04, "FADD"), (.fix, 0x05, "FIX"),
      (.fsub, 0x06, "FSUB"), (.fixu, 0x07, "FIXU"), (.flot, 0x08, "FLOT"),
      (.floti, 0x09, "FLOTI"), (.flotu, 0x0A, "FLOTU"), (.flotui, 0x0B, "FLOTUI"),
      (.sflot, 0x0C, "SFLOT"), (.sfloti, 0x0D, "SFLOTI"), (.sflotu, 0x0E, "SFLOTU"),
      (.sflotui, 0x0F, "SFLOTUI"), (.fmul, 0x10, "FMUL"), (.fcmpe, 0x11, "FCMPE"),
      (.fune, 0x12, "FUNE"), (.feqle, 0x13, "FEQLE"), (.fdiv, 0x14, "FDIV"),
      (.fsqrt, 0x15, "FSQRT"), (.frem, 0x16, "FREM"), (.fint, 0x17, "FINT"),
      (.mul, 0x18, "MUL"), (.muli, 0x19, "MULI"), (.mulu, 0x1A, "MULU"),
      (.mului, 0x1B, "MULUI"), (.div, 0x1C, "DIV"), (.divi, 0x1D, "DIVI"),
      (.divu, 0x1E, "DIVU"), (.divui, 0x1F, "DIVUI"), (.ldsf, 0x90, "LDSF"),
      (.ldsfi, 0x91, "LDSFI"), (.cswap, 0x94, "CSWAP"), (.cswapi, 0x95, "CSWAPI"),
      (.ldunc, 0x96, "LDUNC"), (.ldunci, 0x97, "LDUNCI"), (.ldvts, 0x98, "LDVTS"),
      (.ldvtsi, 0x99, "LDVTSI"), (.preld, 0x9A, "PRELD"), (.preldi, 0x9B, "PRELDI"),
      (.prego, 0x9C, "PREGO"), (.pregoi, 0x9D, "PREGOI"), (.go, 0x9E, "GO"),
      (.goi, 0x9F, "GOI"), (.stsf, 0xB0, "STSF"), (.stsfi, 0xB1, "STSFI"),
      (.stunc, 0xB6, "STUNC"), (.stunci, 0xB7, "STUNCI"), (.syncd, 0xB8, "SYNCD"),
      (.syncdi, 0xB9, "SYNCDI"), (.prest, 0xBA, "PREST"), (.presti, 0xBB, "PRESTI"),
      (.syncid, 0xBC, "SYNCID"), (.syncidi, 0xBD, "SYNCIDI"), (.pushgo, 0xBE, "PUSHGO"),
      (.pushgoi, 0xBF, "PUSHGOI"), (.jmp, 0xF0, "JMP"), (.jmpb, 0xF1, "JMPB"),
      (.pushj, 0xF2, "PUSHJ"), (.pushjb, 0xF3, "PUSHJB"), (.geta, 0xF4, "GETA"),
      (.getab, 0xF5, "GETAB"), (.put, 0xF6, "PUT"), (.puti, 0xF7, "PUTI"),
      (.pop, 0xF8, "POP"), (.resume, 0xF9, "RESUME"), (.save, 0xFA, "SAVE"),
      (.unsave, 0xFB, "UNSAVE"), (.sync, 0xFC, "SYNC"), (.swym, 0xFD, "SWYM"),
      (.get, 0xFE, "GET"), (.trip, 0xFF, "TRIP")] :
      List (Instr × Byte × String)),
    opcode e.1 = e.2.1 ∧ ∀ s, exec e.1 s = .refused (.opcodeNotSpecified e.2.1 e.2.2)

/-- LDB, LDW and LDT load a signed number (R91, R93, R95). -/
def Obligations.SignedLoads : Prop :=
  BothForms 0x80 0x81 .ldb .ldbi
    (LoadsAs .byte fun n v => v.toInt = if n < 2 ^ 7 then (n : Int) else (n : Int) - 2 ^ 8) ∧
  BothForms 0x84 0x85 .ldw .ldwi
    (LoadsAs .wyde fun n v => v.toInt = if n < 2 ^ 15 then (n : Int) else (n : Int) - 2 ^ 16) ∧
  BothForms 0x88 0x89 .ldt .ldti
    (LoadsAs .tetra fun n v => v.toInt = if n < 2 ^ 31 then (n : Int) else (n : Int) - 2 ^ 32)

/-- LDBU, LDWU and LDTU load an unsigned number (R92, R94, R96). -/
def Obligations.UnsignedLoads : Prop :=
  BothForms 0x82 0x83 .ldbu .ldbui
    (LoadsAs .byte fun n v => v.toNat = n) ∧
  BothForms 0x86 0x87 .ldwu .ldwui
    (LoadsAs .wyde fun n v => v.toNat = n) ∧
  BothForms 0x8A 0x8B .ldtu .ldtui
    (LoadsAs .tetra fun n v => v.toNat = n)

/-- LDO and LDOU load eight bytes, LDHT loads the high half (R97, R98, R99). -/
def Obligations.OctaAndHighTetraLoads : Prop :=
  BothForms 0x8C 0x8D .ldo .ldoi
    (LoadsAs .octa fun n v => v.toNat = n) ∧
  BothForms 0x8E 0x8F .ldou .ldoui
    (LoadsAs .octa fun n v => v.toNat = n) ∧
  BothForms 0x92 0x93 .ldht .ldhti
    (LoadsAs .tetra fun n v => v.toNat = n * 2 ^ 32)

/-- When a load stops, and on what (R33, R49, R265, R276, log 9). A byte without a value and an
address outside MAPPED are the spec's decisions D3 and D10; that stuck is answered as a fault by
name is the model's choice (log 4, log 9). -/
def Obligations.LoadsThatStop : Prop :=
  ∀ (i : Instr) (s : State) (a n : Nat), loadedAccess i s = some (a, n) →
    (¬ Mapped s a n → exec i s = .fault (.outsideMapped a n)) ∧
    (Mapped s a n → ∀ e, a ≤ e → e < a + n → s.mem.read e = none →
      (∀ c, a ≤ c → c < e → s.mem.read c ≠ none) → exec i s = .fault (.unwrittenByte e))

/-- STBU, STWU, STTU, STO and STOU store the low bytes of $X (R102, R104, R106, R107, R108). What
R102, R104 and R106 say of STB, STW and STT (the same but for the test) is
UnsignedPartnersMakeNoTest. -/
def Obligations.UncheckedStores : Prop :=
  BothForms 0xA2 0xA3 .stbu .stbui
    (Stores .byte) ∧
  BothForms 0xA6 0xA7 .stwu .stwui
    (Stores .wyde) ∧
  BothForms 0xAA 0xAB .sttu .sttui
    (Stores .tetra) ∧
  BothForms 0xAC 0xAD .sto .stoi
    (Stores .octa) ∧
  BothForms 0xAE 0xAF .stou .stoui
    (Stores .octa)

/-- STCO stores the constant X, STHT the high half of $X (R109, R110). -/
def Obligations.ConstantAndHighTetraStores : Prop :=
  (∀ s (x : Byte) (y : Reg),
    (∀ z : Reg, StoresValue .octa 0xB4 (.stco x y z) s (x.setWidth 64) (s.reg y) (s.reg z)) ∧
    ∀ z : Byte, StoresValue .octa 0xB5 (.stcoi x y z) s (x.setWidth 64) (s.reg y) (z.setWidth 64)) ∧
  BothForms 0xB2 0xB3 .stht .sthti fun op i s x y z =>
    StoresValue .tetra op i s (s.reg x >>> 32) (s.reg y) z

/-- STB, STW and STT store and then signal overflow exactly if $X is out of range (R101, R103, R105,
R261, log 7, log 8). That the write is made before the exception, and what the exception does to
the run, are decisions of the spec (D20 and D9, rules R262 and R263; log 8 and log 7). -/
def Obligations.CheckedStores : Prop :=
  BothForms 0xA0 0xA1 .stb .stbi
    (StoresChecked .byte) ∧
  BothForms 0xA4 0xA5 .stw .stwi
    (StoresChecked .wyde) ∧
  BothForms 0xA8 0xA9 .stt .stti
    (StoresChecked .tetra)

/-- When a store stops before it writes (R49, R53, R265, R276, log 9). MAPPED and the refusal of a
store into TEXT are the spec's decisions D10 and D6; that stuck is answered as a fault by name
is the model's choice (log 9, log 17). -/
def Obligations.StoresThatStop : Prop :=
  ∀ (i : Instr) (s : State) (a n : Nat), storedAccess i s = some (a, n) →
    (¬ Mapped s a n → exec i s = .fault (.outsideMapped a n)) ∧
    (Mapped s a n → MeetsText s a n → exec i s = .refused (.storeIntoText a n))

/-- The address of an access is the masked low 64 bits of the sum (R12, R42, R44). -/
def Obligations.AccessesAreAlignedByMasking : Prop :=
  ∀ (y z : Word) (size : Size),
    accessAddress (effectiveAddress y z) size =
      ((y + z) &&& BitVec.ofNat 64 (2 ^ 64 - sizeBytes size)).toNat ∧
    accessAddress (effectiveAddress y z) size % sizeBytes size = 0 ∧
    accessAddress (effectiveAddress y z) size + sizeBytes size ≤ 2 ^ 64

/-- Bytes, tetras and the last wyde of an octabyte written read back as its parts (R43). R43 is the
spec's inference from R12 and R40. -/
def Obligations.MixedWidthReadBack : Prop :=
  ∀ (m : Memory) (a : Nat) (v : Word), a % 8 = 0 →
    (∀ i, i < 8 →
      (m.writeBytes a (bytesOfWord 8 v)).read (a + i) = some (v.extractLsb' (56 - 8 * i) 8)) ∧
    (∃ bs, (m.writeBytes a (bytesOfWord 8 v)).readBytes a 4 = .ok bs ∧
      numberOfBytes bs = (v.extractLsb' 32 32).toNat) ∧
    (∃ bs, (m.writeBytes a (bytesOfWord 8 v)).readBytes (a + 4) 4 = .ok bs ∧
      numberOfBytes bs = (v.extractLsb' 0 32).toNat) ∧
    ∃ bs, (m.writeBytes a (bytesOfWord 8 v)).readBytes (a + 6) 2 = .ok bs ∧
      numberOfBytes bs = (v.extractLsb' 0 16).toNat

/-- A load right after a store of the same octabyte gives the register stored (R46, R50, R97, R107,
log 16, log 18). That a load sees the latest store and that memory is plain are the spec's
decisions D11, D12 and D19 (R46, R50; log 16, log 18). -/
def Obligations.StoreThenLoad : Prop :=
  ∀ (s t : State) (x y w : Reg),
    (∀ z : Reg, exec (.sto x y z) s = .next t → Sets 0x8C (.ldo w y z) t w (s.reg x)) ∧
    ∀ z : Byte, exec (.stoi x y z) s = .next t → Sets 0x8D (.ldoi w y z) t w (s.reg x)

/-- ADD and SUB write the wrapped result and signal overflow exactly out of range (R120, R126, R261,
log 7, log 8). That the write is made before the exception, and what the exception does to the
run, are decisions of the spec (D20 and D9, rules R262 and R263; log 8 and log 7). -/
def Obligations.SignedAddAndSubtract : Prop :=
  BothForms 0x20 0x21 .add .addi
    (ComputesSigned fun y z => y.toInt + z.toInt) ∧
  BothForms 0x24 0x25 .sub .subi
    (ComputesSigned fun y z => y.toInt - z.toInt)

/-- NEG subtracts from the constant Y and signals overflow exactly above 2^63 - 1 (R128, R261, log
7, log 8). That the write is made before the exception, and what the exception does to the run,
are decisions of the spec (D20 and D9, rules R262 and R263; log 8 and log 7). -/
def Obligations.Negate : Prop :=
  ∀ s (x : Reg) (y : Byte),
    (∀ z : Reg, Signals 0x34 (.neg x y z) s
      (fun t => WritesRegister s t x (BitVec.ofInt 64 ((y.toNat : Int) - (s.reg z).toInt)))
      (2 ^ 63 - 1 < (y.toNat : Int) - (s.reg z).toInt)) ∧
    ∀ z : Byte, Sets 0x35 (.negi x y z) s x (BitVec.ofInt 64 ((y.toNat : Int) - z.toNat))

/-- ADDU, 2ADDU to 16ADDU, SUBU and NEGU compute modulo 2^64 (R121, R122, R123, R124, R125, R127,
R129). What R127 and R129 say of SUB and NEG (the same but for the test) is
UnsignedPartnersMakeNoTest; what R121 infers of CMPU after ADDU is CarryByComparison. -/
def Obligations.UnsignedAddAndSubtract : Prop :=
  BothForms 0x22 0x23 .addu .addui
    (Computes fun y z v => v.toNat = (y.toNat + z.toNat) % 2 ^ 64) ∧
  BothForms 0x28 0x29 .addu2 .addu2i
    (Computes fun y z v => v.toNat = (2 * y.toNat + z.toNat) % 2 ^ 64) ∧
  BothForms 0x2A 0x2B .addu4 .addu4i
    (Computes fun y z v => v.toNat = (4 * y.toNat + z.toNat) % 2 ^ 64) ∧
  BothForms 0x2C 0x2D .addu8 .addu8i
    (Computes fun y z v => v.toNat = (8 * y.toNat + z.toNat) % 2 ^ 64) ∧
  BothForms 0x2E 0x2F .addu16 .addu16i
    (Computes fun y z v => v.toNat = (16 * y.toNat + z.toNat) % 2 ^ 64) ∧
  BothForms 0x26 0x27 .subu .subui
    (Computes fun y z v => (v.toNat : Int) = ((y.toNat : Int) - z.toNat) % 2 ^ 64) ∧
  (∀ s (x : Reg) (y : Byte),
    (∀ z : Reg, ∃ v : Word, (v.toNat : Int) = ((y.toNat : Int) - (s.reg z).toNat) % 2 ^ 64 ∧
      Sets 0x36 (.negu x y z) s x v) ∧
    ∀ z : Byte, ∃ v : Word, (v.toNat : Int) = ((y.toNat : Int) - z.toNat) % 2 ^ 64 ∧
      Sets 0x37 (.negui x y z) s x v)

/-- Each unsigned partner does the same except that no test for overflow is made (R102, R104, R106,
R119, R127, R129, R191, R262, log 7, log 8). That the write is made before the exception, and
what the exception does to the run, are decisions of the spec (D20 and D9, rules R262 and R263;
log 8 and log 7). -/
def Obligations.UnsignedPartnersMakeNoTest : Prop :=
  (∀ x y z : Reg, SameWithoutTest (.add x y z) (.addu x y z) ∧
    SameWithoutTest (.sub x y z) (.subu x y z) ∧
    SameWithoutTest (.sl x y z) (.slu x y z) ∧
    SameWithoutTest (.stb x y z) (.stbu x y z) ∧
    SameWithoutTest (.stw x y z) (.stwu x y z) ∧
    SameWithoutTest (.stt x y z) (.sttu x y z)) ∧
  (∀ (x y : Reg) (z : Byte), SameWithoutTest (.addi x y z) (.addui x y z) ∧
    SameWithoutTest (.subi x y z) (.subui x y z) ∧
    SameWithoutTest (.sli x y z) (.slui x y z) ∧
    SameWithoutTest (.stbi x y z) (.stbui x y z) ∧
    SameWithoutTest (.stwi x y z) (.stwui x y z) ∧
    SameWithoutTest (.stti x y z) (.sttui x y z)) ∧
  (∀ (x : Reg) (y : Byte) (z : Reg), SameWithoutTest (.neg x y z) (.negu x y z)) ∧
  ∀ (x : Reg) (y z : Byte), SameWithoutTest (.negi x y z) (.negui x y z)

/-- ADD overflows exactly when the operands agree in sign and the sum does not (R120, R126). That
the run then ends in that fault is the spec's decision D9 (log 7). -/
def Obligations.AddOverflowBySigns : Prop :=
  ∀ (s : State) (x y z : Reg), s.env.overflowResponse = .fault →
    ((∃ t, exec (.add x y z) s = .fault (.integerOverflow s.pc t)) ↔
      (s.reg y).msb = (s.reg z).msb ∧ (s.reg y + s.reg z).msb ≠ (s.reg y).msb) ∧
    ((∃ t, exec (.sub x y z) s = .fault (.integerOverflow s.pc t)) ↔
      (s.reg y).msb ≠ (s.reg z).msb ∧ (s.reg y - s.reg z).msb ≠ (s.reg y).msb)

/-- CMPU of the sum with $Y after ADDU gives -1 exactly when the sum wrapped (R121, R201). The use
of CMPU for this is the source's; the exact condition is the spec's inference from R201. -/
def Obligations.CarryByComparison : Prop :=
  ∀ (s : State) (x y z w : Reg), x ≠ y →
    ∃ t u, exec (.addu x y z) s = .next t ∧ exec (.cmpu w x y) t = .next u ∧
      ((u.reg w).toInt = -1 ↔ 2 ^ 64 ≤ (s.reg y).toNat + (s.reg z).toNat)

/-- ADD and SUB of two high tetras overflow exactly when the 32-bit result does (R99, R111, R120,
R126). R111 is the spec's inference; that the run then ends in that fault is its decision D9
(log 7). -/
def Obligations.HighTetraOverflow : Prop :=
  ∀ (s : State) (x y z : Reg) (a b : Tetra), s.env.overflowResponse = .fault →
    s.reg y = a ++ (0 : Tetra) → s.reg z = b ++ (0 : Tetra) →
    ((∃ t, exec (.add x y z) s = .fault (.integerOverflow s.pc t)) ↔
      (2 ^ 31 ≤ a.toInt + b.toInt ∨ a.toInt + b.toInt < -(2 ^ 31))) ∧
    ((∃ t, exec (.sub x y z) s = .fault (.integerOverflow s.pc t)) ↔
      (2 ^ 31 ≤ a.toInt - b.toInt ∨ a.toInt - b.toInt < -(2 ^ 31)))

/-- The eight bitwise operations, bit by bit (R140, R141, R142, R143, R144, R145, R146, R147). -/
def Obligations.BitwiseOperations : Prop :=
  BothForms 0xC8 0xC9 .and .andi
    (Computes fun y z v => ∀ j, j < 64 → v.getLsbD j = (y.getLsbD j && z.getLsbD j)) ∧
  BothForms 0xC0 0xC1 .or .ori
    (Computes fun y z v => ∀ j, j < 64 → v.getLsbD j = (y.getLsbD j || z.getLsbD j)) ∧
  BothForms 0xC6 0xC7 .xor .xori
    (Computes fun y z v => ∀ j, j < 64 → v.getLsbD j = (y.getLsbD j ^^ z.getLsbD j)) ∧
  BothForms 0xCA 0xCB .andn .andni
    (Computes fun y z v => ∀ j, j < 64 → v.getLsbD j = (y.getLsbD j && !z.getLsbD j)) ∧
  BothForms 0xC2 0xC3 .orn .orni
    (Computes fun y z v => ∀ j, j < 64 → v.getLsbD j = (y.getLsbD j || !z.getLsbD j)) ∧
  BothForms 0xCC 0xCD .nand .nandi
    (Computes fun y z v => ∀ j, j < 64 → v.getLsbD j = (!(y.getLsbD j && z.getLsbD j))) ∧
  BothForms 0xC4 0xC5 .nor .nori
    (Computes fun y z v => ∀ j, j < 64 → v.getLsbD j = (!(y.getLsbD j || z.getLsbD j))) ∧
  BothForms 0xCE 0xCF .nxor .nxori
    (Computes fun y z v => ∀ j, j < 64 → v.getLsbD j = (!(y.getLsbD j ^^ z.getLsbD j)))

/-- MUX takes bit j of $Y where bit j of rM is 1, else of the second operand (R148, log 2). rM has a
value in every state, which is the model's choice where a launch gives none (log 2). -/
def Obligations.Multiplex : Prop :=
  BothForms 0xD8 0xD9 .mux .muxi fun op i s x y z =>
    ∃ v : Word, (∀ j, j < 64 →
      v.getLsbD j = if s.rM.getLsbD j then (s.reg y).getLsbD j else z.getLsbD j) ∧
      Sets op i s x v

/-- BDIF, WDIF, TDIF, ODIF subtract lane by lane and stop at zero (R150, R151, R152, R153). -/
def Obligations.SaturatingDifferences : Prop :=
  BothForms 0xD0 0xD1 .bdif .bdifi
    (Computes fun y z v => ∀ j, j < 8 →
      v.toNat / 2 ^ (8 * j) % 2 ^ 8 =
        y.toNat / 2 ^ (8 * j) % 2 ^ 8 - z.toNat / 2 ^ (8 * j) % 2 ^ 8) ∧
  BothForms 0xD2 0xD3 .wdif .wdifi
    (Computes fun y z v => ∀ j, j < 4 →
      v.toNat / 2 ^ (16 * j) % 2 ^ 16 =
        y.toNat / 2 ^ (16 * j) % 2 ^ 16 - z.toNat / 2 ^ (16 * j) % 2 ^ 16) ∧
  BothForms 0xD4 0xD5 .tdif .tdifi
    (Computes fun y z v => ∀ j, j < 2 →
      v.toNat / 2 ^ (32 * j) % 2 ^ 32 =
        y.toNat / 2 ^ (32 * j) % 2 ^ 32 - z.toNat / 2 ^ (32 * j) % 2 ^ 32) ∧
  BothForms 0xD6 0xD7 .odif .odifi
    (Computes fun y z v => v.toNat = y.toNat - z.toNat)

/-- SADD counts the positions where $Y has a 1 and the second operand a 0 (R155). -/
def Obligations.SidewaysAdd : Prop :=
  BothForms 0xDA 0xDB .sadd .saddi
    (Computes fun y z v =>
      v.toNat = ((List.range 64).filter fun j => y.getLsbD j && !z.getLsbD j).length)

/-- MOR and MXOR are matrix products over the Booleans and the field of two elements (R157, R158). -/
def Obligations.MatrixProducts : Prop :=
  BothForms 0xDC 0xDD .mor .mori
    (Computes fun y z v => ∀ i j, i < 8 → j < 8 → (v.getLsbD (63 - 8 * i - j) = true ↔
      ∃ k, k < 8 ∧ y.getLsbD (63 - 8 * k - j) = true ∧ z.getLsbD (63 - 8 * i - k) = true)) ∧
  BothForms 0xDE 0xDF .mxor .mxori
    (Computes fun y z v => ∀ i j, i < 8 → j < 8 → v.getLsbD (63 - 8 * i - j) =
      decide (((List.range 8).filter fun k =>
        y.getLsbD (63 - 8 * k - j) && z.getLsbD (63 - 8 * i - k)).length % 2 = 1))

/-- MOR and MXOR with the two constants reverse or keep the bytes (R157, R158). -/
def Obligations.MatrixConstants : Prop :=
  (∀ (s : State) (x y z : Reg), s.reg z = 0x0102040810204080 →
    ∃ v, (∀ i, i < 8 → v.extractLsb' (8 * i) 8 = (s.reg y).extractLsb' (56 - 8 * i) 8) ∧
      Sets 0xDC (.mor x y z) s x v ∧ Sets 0xDE (.mxor x y z) s x v) ∧
  (∀ (s : State) (x y z : Reg), s.reg z = 0x8040201008040201 →
    Sets 0xDC (.mor x y z) s x (s.reg y) ∧ Sets 0xDE (.mxor x y z) s x (s.reg y)) ∧
  ∀ (s : State) (x y : Reg) (z : Byte),
    (∃ v : Word, v.toNat < 256 ∧ Sets 0xDD (.mori x y z) s x v) ∧
    ∃ v : Word, v.toNat < 256 ∧ Sets 0xDF (.mxori x y z) s x v

/-- The SET and INC groups of the wyde immediates (R171, R172, R173, R174, R175, R176, R177, R178). -/
def Obligations.SetAndIncrementWydes : Prop :=
  ∀ (s : State) (x : Reg) (yz : Wyde),
    Sets 0xE0 (.seth x yz) s x (yz.setWidth 64 <<< 48) ∧
    Sets 0xE1 (.setmh x yz) s x (yz.setWidth 64 <<< 32) ∧
    Sets 0xE2 (.setml x yz) s x (yz.setWidth 64 <<< 16) ∧
    Sets 0xE3 (.setl x yz) s x (yz.setWidth 64) ∧
    Sets 0xE4 (.inch x yz) s x (s.reg x + (yz.setWidth 64 <<< 48)) ∧
    Sets 0xE5 (.incmh x yz) s x (s.reg x + (yz.setWidth 64 <<< 32)) ∧
    Sets 0xE6 (.incml x yz) s x (s.reg x + (yz.setWidth 64 <<< 16)) ∧
    Sets 0xE7 (.incl x yz) s x (s.reg x + yz.setWidth 64)

/-- The OR and ANDN groups of the wyde immediates (R179, R180, R181, R182, R183, R184, R185, R186). -/
def Obligations.OrAndClearWydes : Prop :=
  ∀ (s : State) (x : Reg) (yz : Wyde),
    Sets 0xE8 (.orh x yz) s x (s.reg x ||| (yz.setWidth 64 <<< 48)) ∧
    Sets 0xE9 (.ormh x yz) s x (s.reg x ||| (yz.setWidth 64 <<< 32)) ∧
    Sets 0xEA (.orml x yz) s x (s.reg x ||| (yz.setWidth 64 <<< 16)) ∧
    Sets 0xEB (.orl x yz) s x (s.reg x ||| (yz.setWidth 64)) ∧
    Sets 0xEC (.andnh x yz) s x (s.reg x &&& ~~~(yz.setWidth 64 <<< 48)) ∧
    Sets 0xED (.andnmh x yz) s x (s.reg x &&& ~~~(yz.setWidth 64 <<< 32)) ∧
    Sets 0xEE (.andnml x yz) s x (s.reg x &&& ~~~(yz.setWidth 64 <<< 16)) ∧
    Sets 0xEF (.andnl x yz) s x (s.reg x &&& ~~~(yz.setWidth 64))

/-- SETH and three of INC or OR put any 64-bit constant into a register (R171, R176, R177, R178,
R180, R181, R182, R187). R187 is the spec's inference from the single rules. -/
def Obligations.FourWydeConstant : Prop :=
  ∀ (s : State) (x : Reg) (gh ij kl mn : Wyde) (p q r : Bool),
    ∃ t u v w, exec (.seth x gh) s = .next t ∧
      exec (if p then .incmh x ij else .ormh x ij) t = .next u ∧
      exec (if q then .incml x kl else .orml x kl) u = .next v ∧
      exec (if r then .incl x mn else .orl x mn) v = .next w ∧
      WritesRegister s w x (gh ++ ij ++ kl ++ mn) ∧ w.ovf = s.ovf ∧ w.pc = s.pc + 16

/-- SL multiplies by 2^n, n the whole second operand, and signals overflow exactly out of range
(R190, R261, log 7, log 8). That the write is made before the exception, and what the exception
does to the run, are decisions of the spec (D20 and D9, rules R262 and R263; log 8 and log 7). -/
def Obligations.ShiftLeftSigned : Prop :=
  BothForms 0x38 0x39 .sl .sli
    (ComputesSigned fun y n => y.toInt * 2 ^ n.toNat)

/-- SL overflows exactly when the n + 1 high bits of $Y are not all equal (R190). That the run then
ends in that fault is the spec's decision D9 (log 7). -/
def Obligations.ShiftLeftOverflowByBits : Prop :=
  BothForms 0x38 0x39 .sl .sli fun op i s _ y n => s.env.overflowResponse = .fault →
    opcode i = op ∧ ((∃ t, exec i s = .fault (.integerOverflow s.pc t)) ↔
      if n.toNat < 64 then
        ¬ ∀ j, 63 - n.toNat ≤ j → j ≤ 63 → (s.reg y).getLsbD j = (s.reg y).getLsbD 63
      else s.reg y ≠ 0)

/-- SLU, SR and SRU are multiplication and floor division by 2^n, n the whole second operand (R191,
R192, R193). What R191 says of SL (the same but for the test) is UnsignedPartnersMakeNoTest. -/
def Obligations.OtherShifts : Prop :=
  BothForms 0x3A 0x3B .slu .slui
    (Computes fun y n v => v.toNat = y.toNat * 2 ^ n.toNat % 2 ^ 64) ∧
  BothForms 0x3C 0x3D .sr .sri
    (Computes fun y n v => v.toInt = y.toInt / 2 ^ n.toNat) ∧
  BothForms 0x3E 0x3F .sru .srui
    (Computes fun y n v => v.toNat = y.toNat / 2 ^ n.toNat)

/-- CMP and CMPU give -1, 0 or 1 (R200, R201). -/
def Obligations.Comparisons : Prop :=
  BothForms 0x30 0x31 .cmp .cmpi
    (Computes fun y z v => v.toInt =
      if y.toInt < z.toInt then -1 else if y.toInt = z.toInt then 0 else 1) ∧
  BothForms 0x32 0x33 .cmpu .cmpui
    (Computes fun y z v => v.toInt =
      if y.toNat < z.toNat then -1 else if y.toNat = z.toNat then 0 else 1)

/-- The eight conditions hold as both columns of the table say, and come in opposite pairs (R202). -/
def Obligations.ConditionsByValueAndByBits : Prop :=
  ∀ v : Word,
    ((conditionHolds .negative v = true ↔ v.toInt < 0) ∧
      (conditionHolds .negative v = true ↔ v.getLsbD 63 = true)) ∧
    ((conditionHolds .zero v = true ↔ v = 0) ∧
      (conditionHolds .zero v = true ↔ ∀ j, j < 64 → v.getLsbD j = false)) ∧
    ((conditionHolds .positive v = true ↔ 0 < v.toInt) ∧
      (conditionHolds .positive v = true ↔ v.getLsbD 63 = false ∧ v ≠ 0)) ∧
    ((conditionHolds .odd v = true ↔ v.toNat % 2 = 1) ∧
      (conditionHolds .odd v = true ↔ v.getLsbD 0 = true)) ∧
    ((conditionHolds .nonnegative v = true ↔ 0 ≤ v.toInt) ∧
      (conditionHolds .nonnegative v = true ↔ v.getLsbD 63 = false)) ∧
    ((conditionHolds .nonzero v = true ↔ v ≠ 0) ∧
      (conditionHolds .nonzero v = true ↔ ∃ j, j < 64 ∧ v.getLsbD j = true)) ∧
    ((conditionHolds .nonpositive v = true ↔ v.toInt ≤ 0) ∧
      (conditionHolds .nonpositive v = true ↔ v.getLsbD 63 = true ∨ v = 0)) ∧
    ((conditionHolds .even v = true ↔ v.toNat % 2 = 0) ∧
      (conditionHolds .even v = true ↔ v.getLsbD 0 = false)) ∧
    conditionHolds .nonnegative v = !conditionHolds .negative v ∧
    conditionHolds .nonzero v = !conditionHolds .zero v ∧
    conditionHolds .nonpositive v = !conditionHolds .positive v ∧
    conditionHolds .even v = !conditionHolds .odd v

/-- CSxx sets $X to the second operand if the condition holds of $Y, else does nothing (R203, R204,
R205, R206, R207, R208, R209, R210). -/
def Obligations.ConditionalSets : Prop :=
  BothForms 0x60 0x61 .csn .csni
    (SetsIf fun v => v.msb = true) ∧
  BothForms 0x62 0x63 .csz .cszi
    (SetsIf fun v => v = 0) ∧
  BothForms 0x64 0x65 .csp .cspi
    (SetsIf fun v => v.msb = false ∧ v ≠ 0) ∧
  BothForms 0x66 0x67 .csod .csodi
    (SetsIf fun v => v.getLsbD 0 = true) ∧
  BothForms 0x68 0x69 .csnn .csnni
    (SetsIf fun v => v.msb = false) ∧
  BothForms 0x6A 0x6B .csnz .csnzi
    (SetsIf fun v => v ≠ 0) ∧
  BothForms 0x6C 0x6D .csnp .csnpi
    (SetsIf fun v => v.msb = true ∨ v = 0) ∧
  BothForms 0x6E 0x6F .csev .csevi
    (SetsIf fun v => v.getLsbD 0 = false)

/-- ZSxx sets $X to the second operand if the condition holds of $Y, else to zero (R211, R212, R213,
R214, R215, R216, R217, R218). -/
def Obligations.ZeroOrSets : Prop :=
  BothForms 0x70 0x71 .zsn .zsni
    (SetsOrZero fun v => v.msb = true) ∧
  BothForms 0x72 0x73 .zsz .zszi
    (SetsOrZero fun v => v = 0) ∧
  BothForms 0x74 0x75 .zsp .zspi
    (SetsOrZero fun v => v.msb = false ∧ v ≠ 0) ∧
  BothForms 0x76 0x77 .zsod .zsodi
    (SetsOrZero fun v => v.getLsbD 0 = true) ∧
  BothForms 0x78 0x79 .zsnn .zsnni
    (SetsOrZero fun v => v.msb = false) ∧
  BothForms 0x7A 0x7B .zsnz .zsnzi
    (SetsOrZero fun v => v ≠ 0) ∧
  BothForms 0x7C 0x7D .zsnp .zsnpi
    (SetsOrZero fun v => v.msb = true ∨ v = 0) ∧
  BothForms 0x7E 0x7F .zsev .zsevi
    (SetsOrZero fun v => v.getLsbD 0 = false)

/-- CMPU r,s,0 is ZSNZ r,s,1; CSNP r,s,0 is ZSP r,s,r; AND r,s,1 is ZSOD r,s,1 (R219). -/
def Obligations.ThreeStatedEquivalences : Prop :=
  ∀ (s : State) (r q : Reg),
    exec (.cmpui r q 0) s = exec (.zsnzi r q 1) s ∧
    exec (.csnpi r q 0) s = exec (.zsp r q r) s ∧
    exec (.andi r q 1) s = exec (.zsodi r q 1) s

/-- The eight branches, forward and backward, taken and not taken (R230, R231, R232, R233, R234,
R235, R236, R237, R238). The wrap modulo 2^64 is the spec's decision D5 (log 12). -/
def Obligations.OrdinaryBranches : Prop :=
  Branches 0x40 0x41 .bn .bnb (fun v => v.msb = true) ∧
  Branches 0x42 0x43 .bz .bzb (fun v => v = 0) ∧
  Branches 0x44 0x45 .bp .bpb (fun v => v.msb = false ∧ v ≠ 0) ∧
  Branches 0x46 0x47 .bod .bodb (fun v => v.getLsbD 0 = true) ∧
  Branches 0x48 0x49 .bnn .bnnb (fun v => v.msb = false) ∧
  Branches 0x4A 0x4B .bnz .bnzb (fun v => v ≠ 0) ∧
  Branches 0x4C 0x4D .bnp .bnpb (fun v => v.msb = true ∨ v = 0) ∧
  Branches 0x4E 0x4F .bev .bevb (fun v => v.getLsbD 0 = false)

/-- The eight probable branches have the meaning of the eight branches (R230, R239, R240, R241,
R242, R243, R244, R245, R246, R247). The wrap modulo 2^64 is the spec's decision D5 (log 12);
the row PBEV is by derivation, D21, DEDUCED (log 21). -/
def Obligations.ProbableBranches : Prop :=
  Branches 0x50 0x51 .pbn .pbnb (fun v => v.msb = true) ∧
  Branches 0x52 0x53 .pbz .pbzb (fun v => v = 0) ∧
  Branches 0x54 0x55 .pbp .pbpb (fun v => v.msb = false ∧ v ≠ 0) ∧
  Branches 0x56 0x57 .pbod .pbodb (fun v => v.getLsbD 0 = true) ∧
  Branches 0x58 0x59 .pbnn .pbnnb (fun v => v.msb = false) ∧
  Branches 0x5A 0x5B .pbnz .pbnzb (fun v => v ≠ 0) ∧
  Branches 0x5C 0x5D .pbnp .pbnpb (fun v => v.msb = true ∨ v = 0) ∧
  Branches 0x5E 0x5F .pbev .pbevb (fun v => v.getLsbD 0 = false)

/-- A probable branch has the same outcome as its branch, in every state (R239, R247, log 21). That
PBEV is a branch of this kind, the last two clauses, is an inference of the spec, R247, D21,
DEDUCED (log 21). -/
def Obligations.ProbableBranchesAreBranches : Prop :=
  ∀ (s : State) (x : Reg) (yz : Wyde),
    exec (.pbn x yz) s = exec (.bn x yz) s ∧
    exec (.pbnb x yz) s = exec (.bnb x yz) s ∧
    exec (.pbz x yz) s = exec (.bz x yz) s ∧
    exec (.pbzb x yz) s = exec (.bzb x yz) s ∧
    exec (.pbp x yz) s = exec (.bp x yz) s ∧
    exec (.pbpb x yz) s = exec (.bpb x yz) s ∧
    exec (.pbod x yz) s = exec (.bod x yz) s ∧
    exec (.pbodb x yz) s = exec (.bodb x yz) s ∧
    exec (.pbnn x yz) s = exec (.bnn x yz) s ∧
    exec (.pbnnb x yz) s = exec (.bnnb x yz) s ∧
    exec (.pbnz x yz) s = exec (.bnz x yz) s ∧
    exec (.pbnzb x yz) s = exec (.bnzb x yz) s ∧
    exec (.pbnp x yz) s = exec (.bnp x yz) s ∧
    exec (.pbnpb x yz) s = exec (.bnpb x yz) s ∧
    exec (.pbev x yz) s = exec (.bev x yz) s ∧
    exec (.pbevb x yz) s = exec (.bevb x yz) s

/-- A branch reaches exactly the tetrabytes from λ - 262,144 to λ + 262,140 (R66, R230). Modulo
2^64, decision D5 (log 12). -/
def Obligations.BranchReach : Prop :=
  ∀ pc l : Word,
    (∃ d yz, branchTarget pc d yz = l) ↔
      ∃ k : Int, -65536 ≤ k ∧ k ≤ 65535 ∧ l = pc + BitVec.ofInt 64 (4 * k)

/-- An assembled BNZ goes to the address it names (R82, R83, R236, 93_implementation_defined.md U14,
log 26). R82 states the displacement; that a displacement out of range, or a target not a
multiple of 4 away, is not assembled is not in the source (it says no more than 'should'): it is
the ruling U14 of 93_implementation_defined.md, which the model follows (log 26). The wrap
modulo 2^64 is decision D5 (log 12). -/
def Obligations.AssembledBranchReachesItsTarget : Prop :=
  ∀ (s : State) (x : Reg) (l : Word),
    ((∃ i, assembleBranch .bnz .bnzb x s.pc l = some i) ↔
      ((l.toNat : Int) - s.pc.toNat) % 4 = 0 ∧
        -262144 ≤ (l.toNat : Int) - s.pc.toNat ∧ (l.toNat : Int) - s.pc.toNat ≤ 262140) ∧
    ∀ i, assembleBranch .bnz .bnzb x s.pc l = some i → s.reg x ≠ 0 → Goes (opcode i) i s l

/-- Reset, as the launch with nothing given: no byte holds a value, all is mapped, overflow ends the
run (R6, R28, R31, R33, R280, log 4, log 5, log 7, log 20). The spec has no reset (R280): that
reset is the launch with nothing given is the model's choice (log 5). That such a launch leaves
every byte without a value is decision D3 (log 4), the response and its default D9 (log 7),
MAPPED and its default D10 (log 20). -/
def Obligations.ResetOfTheEmptyLaunch : Prop :=
  (∀ a, State.reset.mem.read a = none) ∧ State.reset.ovf = false ∧
    (∀ a, State.reset.env.mappedByte a = true ↔ a < 2 ^ 64) ∧
    State.reset.env.overflowResponse = .fault

/-- The reset values that the model chooses where the spec gives none (10_state.md, log 1, log 2,
log 3, log 5). All of it is the model's choice (log 1, log 2, log 3, log 5). -/
def Obligations.ResetOfTheModel : Prop :=
  (∀ r, State.reset.reg r = 0) ∧ State.reset.rM = 0 ∧ State.reset.pc = 0x100 ∧
    State.reset.env.text = [] ∧ State.reset.env.exit = [] ∧
    State.reset = State.ofLaunch Launch.standard

/-- The invariant holds after reset (R6, R26, R28, R33, R280, log 3, log 5). That reset is the
launch with nothing given and has pc = #100 is the model's choice (log 3, log 5). -/
def Obligations.ResetKeepsTheInvariant : Prop :=
  Inv State.reset

/-- A launch lays its parameters out as the table says (R6, R33, R41, R280, log 1, log 2, log 4, log
25). The values of registers and of rM that a launch does not give are the model's choice (log
1, log 2). That the bytes of a tetrabyte stand most significant first is an inference of the
spec, R41, D16, DEDUCED (log 25); that other bytes hold no value is its decision D3 (log 4). -/
def Obligations.LaunchLayout : Prop :=
  ∀ l : Launch, l.wellFormed = true →
    (State.ofLaunch l).pc = l.initPc ∧
    (∀ r v, (r, v) ∈ l.initReg → (State.ofLaunch l).reg r = v) ∧
    (∀ r, (∀ v, (r, v) ∉ l.initReg) → (State.ofLaunch l).reg r = Config.unsetRegister) ∧
    (State.ofLaunch l).rM = l.initRm.getD Config.unsetRm ∧
    (∀ a t, (a, t) ∈ l.text → ∀ k, k < 4 →
      (State.ofLaunch l).mem.read (a + k) = some (t.extractLsb' (24 - 8 * k) 8)) ∧
    (∀ a b, (a, b) ∈ l.initMem → (∀ t, (a - a % 4, t) ∉ l.text) →
      (State.ofLaunch l).mem.read a = some b) ∧
    (∀ a, (∀ b, (a, b) ∉ l.initMem) → (∀ t, (a - a % 4, t) ∉ l.text) →
      (State.ofLaunch l).mem.read a = none) ∧
    (State.ofLaunch l).ovf = false ∧
    (State.ofLaunch l).env = ⟨l.text.map (·.1), l.exit, l.mapped, l.overflowResponse⟩

/-- The invariant holds at the start of every well-formed launch (R6, R26, R33, R280, R282). The
parameters of a launch and what well formed means of them are the spec's decisions D3 to D10
(R6; log 5, log 20). -/
def Obligations.LaunchKeepsTheInvariant : Prop :=
  ∀ l : Launch, l.wellFormed = true → Inv (State.ofLaunch l)

/-- Every step keeps the invariant (R26, R28, R33, R53, R249, log 4, log 12, log 17, log 24). That
TEXT never changes is the spec's decision D6 (log 17), the wrap of pc D5 (log 12), valueless
bytes D3 (log 4), the bit ovf D9; that it is false under fault is the model's choice (log 24). -/
def Obligations.StepKeepsTheInvariant : Prop :=
  ∀ s t : State, Inv s → step s = .next t → Inv t

/-- No step changes the program, rM or a launch parameter (R24, R33, R53, log 2, log 5, log 17).
That the program never changes is the spec's decision D6 (R53, log 17), that rM is a constant of
the run D17 (R24, log 2); that the parameters stand in State is the model's choice (log 5). -/
def Obligations.ProgramAndParametersNeverChange : Prop :=
  ∀ s t : State, step s = .next t → t.rM = s.rM ∧ t.env = s.env ∧
    ∀ a ∈ s.env.text, ∀ k, k < 4 → a % 4 = 0 → t.mem.read (a + k) = s.mem.read (a + k)

/-- What every instruction leaves unchanged (R23, R24, R31, R90, R261, log 2, log 5, log 7). That rM
is a constant of the run is the spec's decision D17 (log 2), the bit ovf and its response D9
(log 7); that the parameters stand in State is the model's choice (log 5). -/
def Obligations.FrameOfEveryInstruction : Prop :=
  ∀ (i : Instr) (s t : State), exec i s = .next t →
    (∀ r, destination i ≠ some r → t.reg r = s.reg r) ∧
    t.rM = s.rM ∧ t.env = s.env ∧
    (∀ b, (∀ a n, storedAccess i s = some (a, n) → b < a ∨ a + n ≤ b) →
      t.mem.read b = s.mem.read b) ∧
    (t.ovf ≠ s.ovf → canOverflow i = true ∧ s.env.overflowResponse = .record ∧ t.ovf = true)

/-- Only STB, STW, STT, ADD, SUB, NEG and SL can end in IntegerOverflow (R260, R261, R262, R263).
That the write is made before the exception, and what the exception does to the run, are
decisions of the spec (D20 and D9, rules R262 and R263; log 8 and log 7). -/
def Obligations.OnlyFourteenCodesOverflow : Prop :=
  ∀ (i : Instr) (s t : State) (l : Word), exec i s = .fault (.integerOverflow l t) →
    mnemonic i ∈ ["STB", "STBI", "STW", "STWI", "STT", "STTI", "ADD", "ADDI", "SUB", "SUBI",
      "NEG", "NEGI", "SL", "SLI"] ∧
    s.env.overflowResponse = .fault ∧ l = s.pc ∧ t.pc = s.pc ∧ t.ovf = s.ovf ∧ t.rM = s.rM ∧
    t.env = s.env

/-- In this model, where every register holds a value, only the named stops keep an instruction in
scope from completing (R3, R75, R261, R265, R276, log 1, log 2). That no read of a general
register or of rM stops an instruction is the model's choice, unsafe (log 1, log 2): R265 (4)
and R276 list that stop, decision D3, and the model leaves it out. The other stops are the
spec's decisions D3, D6, D8, D9 and D10. -/
def Obligations.EveryInstructionInScopeRuns : Prop :=
  ∀ (i : Instr) (s : State), outOfScope (opcode i) = false →
    (∀ a n, loadedAccess i s = some (a, n) →
      Mapped s a n ∧ ∀ k, k < n → s.mem.read (a + k) ≠ none) →
    (∀ a n, storedAccess i s = some (a, n) → Mapped s a n ∧ ¬ MeetsText s a n) →
    (s.env.overflowResponse = .record ∨ canOverflow i = false) →
    ∃ t, exec i s = .next t

/-- Every step moves pc by a multiple of 4 within the reach of a branch (R26, R249, R290). Modulo
2^64, decision D5 (log 12). -/
def Obligations.StepMovesByTetrabytes : Prop :=
  ∀ s t : State, step s = .next t →
    (∃ k : Int, -65536 ≤ k ∧ k ≤ 65535 ∧ t.pc = s.pc + BitVec.ofInt 64 (4 * k)) ∧
    t.pc.toNat % 4 = s.pc.toNat % 4

/-- The overflow bit is never cleared, and under fault never set (R28, R263, log 7, log 24). The bit
is the spec's own device, decision D9 (log 7); that it stands in the state under fault too is
the model's choice (log 24). -/
def Obligations.OverflowBitIsSticky : Prop :=
  State.reset.ovf = false ∧
    (∀ s t : State, step s = .next t →
      (s.ovf = true → t.ovf = true) ∧ (s.env.overflowResponse = .fault → t.ovf = s.ovf)) ∧
    ∀ s : State, s.env.overflowResponse = .record →
      ∃ t, s.raiseIntegerOverflow = .next t ∧ t.ovf = true ∧ t.pc = s.pc + 4
end

