-- ==== Sys2Proof/Laws/Encoding.lean ====
section
/-! SUPPORT. The fields of a tetrabyte and of the bytes that hold it. -/

namespace Sys2Proof

@[simp] theorem opByte_tetraOfFields (op x y z : Byte) : opByte (tetraOfFields op x y z) = op := by
  ext i h
  simp only [opByte, tetraOfFields, BitVec.getElem_extractLsb', BitVec.getLsbD_append]
  rw [if_neg (by omega), if_neg (by omega), if_neg (by omega), ← BitVec.getLsbD_eq_getElem]
  congr 1; omega

@[simp] theorem xByte_tetraOfFields (op x y z : Byte) : xByte (tetraOfFields op x y z) = x := by
  ext i h
  simp only [xByte, tetraOfFields, BitVec.getElem_extractLsb', BitVec.getLsbD_append]
  rw [if_neg (by omega), if_neg (by omega), if_pos (by omega), ← BitVec.getLsbD_eq_getElem]
  congr 1; omega

@[simp] theorem yByte_tetraOfFields (op x y z : Byte) : yByte (tetraOfFields op x y z) = y := by
  ext i h
  simp only [yByte, tetraOfFields, BitVec.getElem_extractLsb', BitVec.getLsbD_append]
  rw [if_neg (by omega), if_pos (by omega), ← BitVec.getLsbD_eq_getElem]
  congr 1; omega

@[simp] theorem zByte_tetraOfFields (op x y z : Byte) : zByte (tetraOfFields op x y z) = z := by
  ext i h
  simp only [zByte, tetraOfFields, BitVec.getElem_extractLsb', BitVec.getLsbD_append]
  rw [if_pos (by omega), ← BitVec.getLsbD_eq_getElem]
  congr 1; omega

/-- A tetrabyte is made of its four fields. -/
@[simp] theorem tetraOfFields_fields (t : Tetra) :
    tetraOfFields (opByte t) (xByte t) (yByte t) (zByte t) = t := by
  apply BitVec.eq_of_getLsbD_eq
  intro i h
  simp only [opByte, xByte, yByte, zByte, tetraOfFields, BitVec.getLsbD_append,
    BitVec.getLsbD_extractLsb']
  by_cases h1 : i < 8
  · simp [h1]
  · by_cases h2 : i - 8 < 8
    · simp [h1, h2]; congr 1; omega
    · by_cases h3 : i - 8 - 8 < 8
      · simp [h1, h2, h3]; congr 1; omega
      · have h4 : i - 8 - 8 - 8 < 8 := by omega
        simp [h1, h2, h3, h4]; congr 1; omega

/-- The bytes of a tetrabyte hold that tetrabyte. -/
@[simp] theorem tetraOfBytes_tetraBytes (t : Tetra) : tetraOfBytes (tetraBytes t) = .ok t := by
  simp [tetraOfBytes, tetraBytes]

@[simp] theorem regOf_byteOf (r : Reg) : regOf (byteOf r) = r := rfl

@[simp] theorem byteOf_regOf (b : Byte) : byteOf (regOf b) = b := rfl

/-- A wyde is made of its two bytes. -/
@[simp] theorem highByte_append_lowByte (yz : Wyde) : highByte yz ++ lowByte yz = yz := by
  apply BitVec.eq_of_getLsbD_eq
  intro i h
  simp only [highByte, lowByte, BitVec.getLsbD_append, BitVec.getLsbD_extractLsb']
  by_cases h1 : i < 8
  · simp [h1]
  · have h2 : i - 8 < 8 := by omega
    simp [h1, h2]; congr 1; omega

@[simp] theorem highByte_append (y z : Byte) : highByte (y ++ z) = y := by
  ext i h
  simp only [highByte, BitVec.getElem_extractLsb', BitVec.getLsbD_append]
  rw [if_neg (by omega), ← BitVec.getLsbD_eq_getElem]
  congr 1; omega

@[simp] theorem lowByte_append (y z : Byte) : lowByte (y ++ z) = z := by
  ext i h
  simp only [lowByte, BitVec.getElem_extractLsb', BitVec.getLsbD_append]
  rw [if_pos (by omega), ← BitVec.getLsbD_eq_getElem]
  congr 1; omega

/-- `decode` of a tetrabyte put together from four fields. -/
@[simp] theorem decode_tetraOfFields (op x y z : Byte) :
    decode (tetraOfFields op x y z) = decodeFields op x y z := by
  simp [decode]

/-- The bytes of a tetrabyte decode as the tetrabyte. -/
@[simp] theorem decodeBytes_tetraBytes (t : Tetra) : decodeBytes (tetraBytes t) = .ok (decode t) := by
  simp [decodeBytes]

end Sys2Proof
end

