-- ==== Sys2Proof/Laws/State.lean ====
section
/-! SUPPORT. One lemma for each field of State under each update of it. -/

namespace Sys2Proof.Machine

@[simp] theorem reg_setReg_same (s : State) (r : Reg) (v : Word) : (s.setReg r v).reg r = v := by
  simp [State.reg, State.setReg]

theorem reg_setReg_other (s : State) {r q : Reg} (v : Word) (h : q ≠ r) :
    (s.setReg r v).reg q = s.reg q := by
  have h' : (r : Nat) ≠ q := fun e => h (Fin.ext e.symm)
  simp [State.reg, State.setReg, h']

theorem reg_setReg (s : State) (r q : Reg) (v : Word) :
    (s.setReg r v).reg q = if q = r then v else s.reg q := by
  split
  · next h => subst h; simp
  · next h => exact reg_setReg_other s v h

@[simp] theorem pc_setReg (s : State) (r : Reg) (v : Word) : (s.setReg r v).pc = s.pc := rfl
@[simp] theorem rM_setReg (s : State) (r : Reg) (v : Word) : (s.setReg r v).rM = s.rM := rfl
@[simp] theorem mem_setReg (s : State) (r : Reg) (v : Word) : (s.setReg r v).mem = s.mem := rfl
@[simp] theorem ovf_setReg (s : State) (r : Reg) (v : Word) : (s.setReg r v).ovf = s.ovf := rfl
@[simp] theorem env_setReg (s : State) (r : Reg) (v : Word) : (s.setReg r v).env = s.env := rfl

@[simp] theorem reg_advance (s : State) (r : Reg) : s.advance.reg r = s.reg r := rfl
@[simp] theorem pc_advance (s : State) : s.advance.pc = s.pc + 4 := rfl
@[simp] theorem rM_advance (s : State) : s.advance.rM = s.rM := rfl
@[simp] theorem mem_advance (s : State) : s.advance.mem = s.mem := rfl
@[simp] theorem ovf_advance (s : State) : s.advance.ovf = s.ovf := rfl
@[simp] theorem env_advance (s : State) : s.advance.env = s.env := rfl

@[simp] theorem reg_withOvf (s : State) (b : Bool) (r : Reg) :
    ({ s with ovf := b } : State).reg r = s.reg r := rfl

@[simp] theorem reg_withPc (s : State) (w : Word) (r : Reg) :
    ({ s with pc := w } : State).reg r = s.reg r := rfl

@[simp] theorem reg_storeBytes (s : State) (a : Word) (z : Size) (v : Word) (r : Reg) :
    (s.storeBytes a z v).reg r = s.reg r := rfl
@[simp] theorem pc_storeBytes (s : State) (a : Word) (z : Size) (v : Word) :
    (s.storeBytes a z v).pc = s.pc := rfl
@[simp] theorem rM_storeBytes (s : State) (a : Word) (z : Size) (v : Word) :
    (s.storeBytes a z v).rM = s.rM := rfl
@[simp] theorem mem_storeBytes (s : State) (a : Word) (z : Size) (v : Word) :
    (s.storeBytes a z v).mem =
      s.mem.writeBytes (accessAddress a z) (bytesOfWord (sizeBytes z) v) := rfl
@[simp] theorem ovf_storeBytes (s : State) (a : Word) (z : Size) (v : Word) :
    (s.storeBytes a z v).ovf = s.ovf := rfl
@[simp] theorem env_storeBytes (s : State) (a : Word) (z : Size) (v : Word) :
    (s.storeBytes a z v).env = s.env := rfl

@[simp] theorem reg_withTetraAtPc (s : State) (t : Tetra) (r : Reg) :
    (s.withTetraAtPc t).reg r = s.reg r := rfl
@[simp] theorem pc_withTetraAtPc (s : State) (t : Tetra) : (s.withTetraAtPc t).pc = s.pc := rfl
@[simp] theorem rM_withTetraAtPc (s : State) (t : Tetra) : (s.withTetraAtPc t).rM = s.rM := rfl
@[simp] theorem mem_withTetraAtPc (s : State) (t : Tetra) :
    (s.withTetraAtPc t).mem = s.mem.writeTetra s.location t := rfl
@[simp] theorem ovf_withTetraAtPc (s : State) (t : Tetra) : (s.withTetraAtPc t).ovf = s.ovf := rfl
@[simp] theorem env_withTetraAtPc (s : State) (t : Tetra) :
    (s.withTetraAtPc t).env = s.env.withTextAt s.location := rfl

@[simp] theorem reg_reset (r : Reg) : State.reset.reg r = Config.unsetRegister := by
  simp [State.reg, State.reset]

@[simp] theorem pc_ofLaunch (l : Launch) : (State.ofLaunch l).pc = l.initPc := rfl
@[simp] theorem rM_ofLaunch (l : Launch) :
    (State.ofLaunch l).rM = l.initRm.getD Config.unsetRm := rfl
@[simp] theorem mem_ofLaunch (l : Launch) : (State.ofLaunch l).mem = launchMemory l := rfl
@[simp] theorem ovf_ofLaunch (l : Launch) : (State.ofLaunch l).ovf = false := rfl
@[simp] theorem env_ofLaunch (l : Launch) :
    (State.ofLaunch l).env = ⟨l.text.map (·.1), l.exit, l.mapped, l.overflowResponse⟩ := rfl

end Sys2Proof.Machine
end

