-- ==== Sys2Proof/Laws/Memory.lean ====
section
/-! SUPPORT. What the memory operations do, and that each of them keeps the canonical form. -/

namespace Sys2Proof.Machine

/-! ## One byte -/

@[simp] theorem read_nil (a : Nat) : Memory.read [] a = none := rfl

/-- A read after a write gives the byte written at its address, and what was there elsewhere. -/
theorem read_write (m : Memory) (a c : Nat) (b : Byte) :
    (m.write a b).read c = if c = a then some b else m.read c := by
  induction m with
  | nil => simp [Memory.write, Memory.read]
  | cons e m ih =>
    obtain ⟨k, v⟩ := e
    simp only [Memory.write]
    split
    · simp [Memory.read]
    · split
      · next h => subst h; simp only [Memory.read]; split <;> simp_all
      · next h =>
        simp only [Memory.read, ih]
        by_cases hc : c = k
        · subst hc; simp [Ne.symm h]
        · simp [hc]

theorem risesFrom_cons (low : Nat) (e : Host.Cell) (m : Memory) :
    Memory.risesFrom low (e :: m) = true ↔
      low ≤ e.1 ∧ e.1 < 2 ^ 64 ∧ m.risesFrom (e.1 + 1) = true := by
  simp only [Memory.risesFrom, Bool.and_eq_true, decide_eq_true_eq, and_assoc]

theorem risesFrom_mono (m : Memory) {low low' : Nat} (h : low' ≤ low)
    (hm : m.risesFrom low = true) : m.risesFrom low' = true := by
  cases m with
  | nil => rfl
  | cons e m =>
    rw [risesFrom_cons] at hm ⊢
    exact ⟨by omega, hm.2⟩

/-- A write keeps the addresses rising, from a bound not above the address on. -/
theorem risesFrom_write (m : Memory) (low a : Nat) (b : Byte) (hm : m.risesFrom low = true)
    (hl : low ≤ a) (ha : a < 2 ^ 64) : (m.write a b).risesFrom low = true := by
  induction m generalizing low with
  | nil => exact (risesFrom_cons _ _ _).2 ⟨hl, ha, rfl⟩
  | cons e m ih =>
    obtain ⟨hk, hk', hrest⟩ := (risesFrom_cons _ _ _).1 hm
    simp only [Memory.write]
    split
    · next h =>
      exact (risesFrom_cons _ _ _).2 ⟨hl, ha, (risesFrom_cons _ _ _).2 ⟨h, hk', hrest⟩⟩
    · split
      · next h => exact (risesFrom_cons _ _ _).2 ⟨hl, ha, h ▸ hrest⟩
      · exact (risesFrom_cons _ _ _).2 ⟨hk, hk', ih _ hrest (by omega)⟩

/-- A write of one byte keeps the canonical form. -/
theorem wf_write (m : Memory) (a : Nat) (b : Byte) (hm : m.wf = true) (ha : a < 2 ^ 64) :
    (m.write a b).wf = true := risesFrom_write m 0 a b hm (Nat.zero_le a) ha

theorem read_below (m : Memory) {low a : Nat} (hm : m.risesFrom low = true) (ha : a < low) :
    m.read a = none := by
  induction m generalizing low with
  | nil => rfl
  | cons e m ih =>
    obtain ⟨hk, -, hrest⟩ := (risesFrom_cons _ _ _).1 hm
    simp only [Memory.read]
    rw [if_neg (by omega)]
    exact ih hrest (by omega)

/-- Memories in canonical form that read alike are equal. -/
theorem eq_of_read (m m' : Memory) (low : Nat) (hm : m.risesFrom low = true)
    (hm' : m'.risesFrom low = true) (h : ∀ a, m.read a = m'.read a) : m = m' := by
  induction m generalizing m' low with
  | nil =>
    cases m' with
    | nil => rfl
    | cons e m' => have := h e.1; simp [Memory.read] at this
  | cons e m ih =>
    cases m' with
    | nil => have := h e.1; simp [Memory.read] at this
    | cons e' m' =>
      obtain ⟨-, hb, hr⟩ := (risesFrom_cons _ _ _).1 hm
      obtain ⟨-, hb', hr'⟩ := (risesFrom_cons _ _ _).1 hm'
      have hk : e.1 = e'.1 := by
        rcases Nat.lt_trichotomy e.1 e'.1 with hlt | heq | hgt
        · have := h e.1
          rw [read_below (e' :: m') ((risesFrom_cons e'.1 _ _).2 ⟨le_refl _, hb', hr'⟩) hlt] at this
          simp [Memory.read] at this
        · exact heq
        · have := h e'.1
          rw [read_below (e :: m) ((risesFrom_cons e.1 _ _).2 ⟨le_refl _, hb, hr⟩) hgt] at this
          simp [Memory.read] at this
      have hv : e.2 = e'.2 := by have := h e.1; simpa [Memory.read, hk] using this
      have he : e = e' := Prod.ext hk hv
      subst he
      congr 1
      refine ih m' (e.1 + 1) hr hr' fun a => ?_
      by_cases ha : a = e.1
      · rw [read_below m hr (by omega), read_below m' hr' (by omega)]
      · have := h a; simpa [Memory.read, ha] using this

/-! ## Several bytes -/

/-- A read after a write of several bytes: the byte at its place in the list, or what was there. -/
theorem read_writeBytes (m : Memory) (a c : Nat) (bs : List Byte) :
    (m.writeBytes a bs).read c = if a ≤ c ∧ c < a + bs.length then bs[c - a]? else m.read c := by
  induction bs generalizing m a with
  | nil => simp only [Memory.writeBytes, List.length_nil]; rw [if_neg (by omega)]
  | cons b bs ih =>
    simp only [Memory.writeBytes, ih, read_write, List.length_cons]
    by_cases h1 : c = a
    · subst h1
      rw [if_neg (by omega), if_pos rfl, if_pos (by omega)]; simp
    · by_cases h2 : a + 1 ≤ c ∧ c < a + 1 + bs.length
      · rw [if_pos h2, if_pos (by omega)]
        obtain ⟨d, rfl⟩ : ∃ d, c = a + 1 + d := ⟨c - (a + 1), by omega⟩
        rw [show a + 1 + d - a = d + 1 by omega]; simp
      · rw [if_neg h2, if_neg h1, if_neg (by omega)]

/-- Outside the bytes written nothing changes. -/
theorem read_writeBytes_outside (m : Memory) (a c : Nat) (bs : List Byte)
    (h : c < a ∨ a + bs.length ≤ c) : (m.writeBytes a bs).read c = m.read c := by
  rw [read_writeBytes, if_neg (by omega)]

/-- A write of several bytes keeps the canonical form. -/
theorem wf_writeBytes (m : Memory) (a : Nat) (bs : List Byte) (hm : m.wf = true)
    (ha : a + bs.length ≤ 2 ^ 64) : (m.writeBytes a bs).wf = true := by
  induction bs generalizing m a with
  | nil => exact hm
  | cons b bs ih =>
    rw [List.length_cons] at ha
    exact ih _ _ (wf_write m a b hm (by omega)) (by omega)

theorem isSome_read_writeBytes (m : Memory) (a c : Nat) (bs : List Byte)
    (h : (m.read c).isSome = true) : ((m.writeBytes a bs).read c).isSome = true := by
  rw [read_writeBytes]
  split
  · next h' => rw [List.getElem?_eq_getElem (by omega)]; rfl
  · exact h

/-- What a read of n bytes answers when it answers bytes: each of them, in order. -/
theorem readBytes_eq_ok (m : Memory) (a n : Nat) (bs : List Byte) :
    m.readBytes a n = .ok bs ↔ bs.length = n ∧ ∀ k, k < n → m.read (a + k) = bs[k]? := by
  induction n generalizing a bs with
  | zero => cases bs <;> simp [Memory.readBytes]
  | succ n ih =>
    simp only [Memory.readBytes]
    constructor
    · intro h
      split at h
      · cases h
      · next b hb =>
        split at h
        · cases h
        · next bs' hbs =>
          cases h
          obtain ⟨hl, hk⟩ := (ih _ _).1 hbs
          refine ⟨by simp [hl], fun k hkn => ?_⟩
          cases k with
          | zero => simp [hb]
          | succ k => rw [show a + (k + 1) = a + 1 + k by omega, hk k (by omega)]; simp
    · rintro ⟨hl, hk⟩
      cases bs with
      | nil => simp at hl
      | cons b bs =>
        have h0 := hk 0 (by omega)
        simp only [Nat.add_zero, List.getElem?_cons_zero] at h0
        have hrest : m.readBytes (a + 1) n = .ok bs := (ih _ _).2
          ⟨by simpa using hl, fun k hkn => by
            have := hk (k + 1) (by omega)
            rw [show a + 1 + k = a + (k + 1) by omega, this]; simp⟩
        simp [h0, hrest]

/-- When it answers an address, that is the first one of the range whose byte holds no value. -/
theorem readBytes_eq_error (m : Memory) (a n e : Nat) :
    m.readBytes a n = .error e ↔
      a ≤ e ∧ e < a + n ∧ m.read e = none ∧ ∀ c, a ≤ c → c < e → (m.read c).isSome = true := by
  induction n generalizing a with
  | zero =>
    simp only [Memory.readBytes, reduceCtorEq, false_iff]
    intro h; omega
  | succ n ih =>
    simp only [Memory.readBytes]
    cases hb : m.read a with
    | none =>
      simp only [Except.error.injEq]
      constructor
      · rintro rfl; exact ⟨le_refl _, by omega, hb, fun c h1 h2 => by omega⟩
      · rintro ⟨h1, -, -, h4⟩
        by_contra hne
        have := h4 a (le_refl _) (by omega)
        simp [hb] at this
    | some b =>
      have key : (match m.readBytes (a + 1) n with
          | .error e => (.error e : Except Nat (List Byte)) | .ok bs => .ok (b :: bs)) = .error e ↔
          m.readBytes (a + 1) n = .error e := by
        cases m.readBytes (a + 1) n <;> simp
      refine Iff.trans key ((ih (a + 1)).trans ?_)
      constructor
      · rintro ⟨h1, h2, h3, h4⟩
        refine ⟨by omega, by omega, h3, fun c hc1 hc2 => ?_⟩
        by_cases hca : c = a
        · subst hca; simp [hb]
        · exact h4 c (by omega) hc2
      · rintro ⟨h1, h2, h3, h4⟩
        have : e ≠ a := fun h => by subst h; rw [hb] at h3; cases h3
        exact ⟨by omega, by omega, h3, fun c hc1 hc2 => h4 c (by omega) hc2⟩

/-- n bytes that hold `b 0`, `b 1`, ... read as those bytes. -/
theorem readBytes_of_holds {s : State} {a n : Nat} {b : Nat → Byte} (h : Holds s a n b) :
    s.mem.readBytes a n = .ok ((List.range n).map b) := by
  rw [readBytes_eq_ok]
  refine ⟨by simp, fun k hk => ?_⟩
  rw [h k hk, List.getElem?_map, List.getElem?_range hk]; rfl

/-- The number of the bytes `b 0`, ..., `b (n - 1)` is their big-endian reading. -/
theorem numberOfBytes_map_range (b : Nat → Byte) (n : Nat) :
    numberOfBytes ((List.range n).map b) = bigEndian b n := by
  induction n with
  | zero => rfl
  | succ n ih =>
    rw [List.range_succ, List.map_append, numberOfBytes, List.foldl_append]
    rw [numberOfBytes] at ih
    simp [ih, bigEndian]

theorem bigEndian_lt (b : Nat → Byte) (n : Nat) : bigEndian b n < 256 ^ n := by
  induction n with
  | zero => simp [bigEndian]
  | succ n ih => have := (b n).isLt; rw [bigEndian, pow_succ]; omega

@[simp] theorem length_bytesOfWord (n : Nat) (v : Word) : (bytesOfWord n v).length = n := by
  induction n with
  | zero => rfl
  | succ n ih => simp [bytesOfWord, ih]

/-- Byte k of the n low bytes of v, the most significant first (00_scope.md R12). -/
theorem getElem?_bytesOfWord (n k : Nat) (v : Word) (h : k < n) :
    (bytesOfWord n v)[k]? = some (v.extractLsb' (8 * (n - 1 - k)) 8) := by
  induction n generalizing k with
  | zero => omega
  | succ n ih =>
    cases k with
    | zero => simp [bytesOfWord]
    | succ k =>
      rw [bytesOfWord, List.getElem?_cons_succ, ih k (by omega)]
      rw [show n + 1 - 1 - (k + 1) = n - 1 - k by omega]

/-! ## Addresses -/

theorem align_le (a n : Nat) : align a n ≤ a := Nat.sub_le _ _

theorem align_mod (a n : Nat) : align a n % n = 0 := by
  rw [align, ← Nat.dvd_iff_mod_eq_zero]
  exact Nat.dvd_sub_mod a

theorem sizeBytes_pos (z : Size) : 0 < sizeBytes z := by cases z <;> decide

/-- An access lies in M: it never runs past the top of the address space. -/
theorem accessAddress_add_size_le (a : Word) (z : Size) :
    accessAddress a z + sizeBytes z ≤ 2 ^ 64 := by
  have := a.isLt
  cases z <;> simp only [accessAddress, align, sizeBytes] <;> omega

/-- An access is aligned (20_memory.md R42). -/
theorem accessAddress_mod (a : Word) (z : Size) : accessAddress a z % sizeBytes z = 0 :=
  align_mod _ _

/-! ## The checks of an access -/

theorem mappedRange_iff (s : State) (a n : Nat) : s.env.mappedRange a n = true ↔ Mapped s a n := by
  simp [Env.mappedRange, Env.mappedByte, Mapped, List.all_eq_true, List.any_eq_true]

theorem meetsText_iff (s : State) (a n : Nat) : s.env.meetsText a n = true ↔ MeetsText s a n := by
  simp [Env.meetsText, Env.textByte, MeetsText, align, List.any_eq_true]

/-! ## A whole store -/

/-- A store keeps the canonical form. -/
theorem wf_storeBytes (s : State) (a : Word) (z : Size) (v : Word) (h : s.mem.wf = true) :
    (s.storeBytes a z v).mem.wf = true := by
  rw [mem_storeBytes]
  exact wf_writeBytes _ _ _ h (by rw [length_bytesOfWord]; exact accessAddress_add_size_le a z)

/-- Outside the bytes it writes, a store changes no byte. -/
theorem read_storeBytes_outside (s : State) (a : Word) (z : Size) (v : Word) (c : Nat)
    (h : c < accessAddress a z ∨ accessAddress a z + sizeBytes z ≤ c) :
    (s.storeBytes a z v).mem.read c = s.mem.read c := by
  rw [mem_storeBytes]
  exact read_writeBytes_outside _ _ _ _ (by rw [length_bytesOfWord]; exact h)

/-- The bytes a store writes (00_scope.md R12). -/
theorem read_storeBytes_inside (s : State) (a : Word) (z : Size) (v : Word) (k : Nat)
    (h : k < sizeBytes z) : (s.storeBytes a z v).mem.read (accessAddress a z + k) =
      some (v.extractLsb' (8 * (sizeBytes z - 1 - k)) 8) := by
  rw [mem_storeBytes, read_writeBytes, length_bytesOfWord, if_pos (by omega),
    Nat.add_sub_cancel_left, getElem?_bytesOfWord _ _ _ h]

/-- Placing a tetrabyte keeps the canonical form. -/
theorem wf_writeTetra (m : Memory) (a : Nat) (t : Tetra) (h : m.wf = true) (ha : a + 4 ≤ 2 ^ 64) :
    (m.writeTetra a t).wf = true := wf_writeBytes m a _ h (by simpa [tetraBytes] using ha)

/-- Loading a word at the location of the fetch keeps the canonical form. -/
theorem wf_withTetraAtPc (s : State) (t : Tetra) (h : s.mem.wf = true) :
    (s.withTetraAtPc t).mem.wf = true := by
  rw [mem_withTetraAtPc]
  refine wf_writeTetra _ _ _ h ?_
  have := s.pc.isLt
  simp only [State.location, align]; omega

/-- The memory after reset is in canonical form. -/
theorem wf_reset : State.reset.mem.wf = true := rfl

end Sys2Proof.Machine
end

