-- ==== Sys2Proof/Laws/Ops.lean ====
section
/-! SUPPORT. For each shared operation, once, everything it can answer. -/

namespace Sys2Proof.Machine

/-! ## Registers -/

/-- Writing a register writes that register and nothing else. -/
theorem writesRegister_setReg (s : State) (x : Reg) (v : Word) :
    WritesRegister s (s.setReg x v) x v :=
  ⟨reg_setReg_same s x v, fun _ h => reg_setReg_other s v h, rfl, fun _ => rfl, rfl⟩

/-- `State.result` answers a next state, and which. -/
theorem result_eq_next (s : State) (x : Reg) (v : Word) (t : State) :
    s.result x v = .next t ↔ t = (s.setReg x v).advance := by
  simp [State.result, eq_comm]

/-! ## The integer overflow exception -/

/-- The end of an instruction answers a next state without the exception, or with it under `record`. -/
theorem complete_eq_next (s : State) (o : Bool) (t : State) :
    s.complete o = .next t ↔
      (o = false ∧ t = s.advance) ∨
      (o = true ∧ s.env.overflowResponse = .record ∧ t = ({ s with ovf := true } : State).advance) := by
  cases o <;> cases h : s.env.overflowResponse <;>
    simp [State.complete, State.raiseIntegerOverflow, h, eq_comm]

/-- It answers a fault under `fault`: the exception, at the instruction's own location. -/
theorem complete_eq_fault (s : State) (o : Bool) (f : Fault) :
    s.complete o = .fault f ↔
      o = true ∧ s.env.overflowResponse = .fault ∧ f = .integerOverflow s.pc s := by
  cases o <;> cases h : s.env.overflowResponse <;>
    simp [State.complete, State.raiseIntegerOverflow, h, eq_comm]

/-- It refuses nothing. -/
theorem complete_ne_refused (s : State) (o : Bool) (r : Refusal) : s.complete o ≠ .refused r := by
  cases o <;> cases h : s.env.overflowResponse <;>
    simp [State.complete, State.raiseIntegerOverflow, h]

/-! ## Loads and stores -/

/-- A load answers a next state when its bytes are mapped and hold values. -/
theorem load_eq_next (s : State) (x : Reg) (a : Word) (z : Size) (f : Nat → Word) (t : State) :
    s.load x a z f = .next t ↔
      s.env.mappedRange (accessAddress a z) (sizeBytes z) = true ∧
      ∃ bytes, s.mem.readBytes (accessAddress a z) (sizeBytes z) = .ok bytes ∧
        t = (s.setReg x (f (numberOfBytes bytes))).advance := by
  unfold State.load
  cases s.env.mappedRange (accessAddress a z) (sizeBytes z)
  · simp
  · cases s.mem.readBytes (accessAddress a z) (sizeBytes z) <;> simp [result_eq_next]

/-- It faults when they are not: the range outside `MAPPED` first, then the first byte without a value. -/
theorem load_eq_fault (s : State) (x : Reg) (a : Word) (z : Size) (f : Nat → Word) (e : Fault) :
    s.load x a z f = .fault e ↔
      (s.env.mappedRange (accessAddress a z) (sizeBytes z) = false ∧
        e = .outsideMapped (accessAddress a z) (sizeBytes z)) ∨
      (s.env.mappedRange (accessAddress a z) (sizeBytes z) = true ∧
        ∃ c, s.mem.readBytes (accessAddress a z) (sizeBytes z) = .error c ∧ e = .unwrittenByte c) := by
  unfold State.load
  cases s.env.mappedRange (accessAddress a z) (sizeBytes z)
  · simp [eq_comm]
  · cases s.mem.readBytes (accessAddress a z) (sizeBytes z) <;> simp [State.result, eq_comm]

/-- It refuses nothing. -/
theorem load_ne_refused (s : State) (x : Reg) (a : Word) (z : Size) (f : Nat → Word) (r : Refusal) :
    s.load x a z f ≠ .refused r := by
  unfold State.load
  cases s.env.mappedRange (accessAddress a z) (sizeBytes z)
  · simp
  · cases s.mem.readBytes (accessAddress a z) (sizeBytes z) <;> simp [State.result]

/-- A store of mapped bytes clear of the program text is the write and the end of the instruction. -/
theorem store_of_mapped (s : State) (a : Word) (z : Size) (v : Word) (o : Bool)
    (hm : s.env.mappedRange (accessAddress a z) (sizeBytes z) = true)
    (ht : s.env.meetsText (accessAddress a z) (sizeBytes z) = false) :
    s.store a z v o = (s.storeBytes a z v).complete o := by
  simp [State.store, hm, ht]

/-- A store answers a next state when its bytes are mapped and clear of the program text. -/
theorem store_eq_next (s : State) (a : Word) (z : Size) (v : Word) (o : Bool) (t : State) :
    s.store a z v o = .next t ↔
      s.env.mappedRange (accessAddress a z) (sizeBytes z) = true ∧
      s.env.meetsText (accessAddress a z) (sizeBytes z) = false ∧
      (s.storeBytes a z v).complete o = .next t := by
  unfold State.store
  cases s.env.mappedRange (accessAddress a z) (sizeBytes z) <;>
    cases s.env.meetsText (accessAddress a z) (sizeBytes z) <;> simp

/-- It faults outside `MAPPED`, or by the exception once the write is made. -/
theorem store_eq_fault (s : State) (a : Word) (z : Size) (v : Word) (o : Bool) (e : Fault) :
    s.store a z v o = .fault e ↔
      (s.env.mappedRange (accessAddress a z) (sizeBytes z) = false ∧
        e = .outsideMapped (accessAddress a z) (sizeBytes z)) ∨
      (s.env.mappedRange (accessAddress a z) (sizeBytes z) = true ∧
        s.env.meetsText (accessAddress a z) (sizeBytes z) = false ∧
        (s.storeBytes a z v).complete o = .fault e) := by
  unfold State.store
  cases s.env.mappedRange (accessAddress a z) (sizeBytes z) <;>
    cases s.env.meetsText (accessAddress a z) (sizeBytes z) <;> simp [eq_comm]

/-- It refuses a store that meets the program text. -/
theorem store_eq_refused (s : State) (a : Word) (z : Size) (v : Word) (o : Bool) (r : Refusal) :
    s.store a z v o = .refused r ↔
      s.env.mappedRange (accessAddress a z) (sizeBytes z) = true ∧
      s.env.meetsText (accessAddress a z) (sizeBytes z) = true ∧
      r = .storeIntoText (accessAddress a z) (sizeBytes z) := by
  unfold State.store
  cases s.env.mappedRange (accessAddress a z) (sizeBytes z) <;>
    cases s.env.meetsText (accessAddress a z) (sizeBytes z) <;>
    simp [complete_ne_refused, eq_comm (a := r)]

/-- A store writes its bytes and nothing else. -/
theorem writesMemory_storeBytes (s : State) (a : Word) (z : Size) (v : Word) :
    WritesMemory s (s.storeBytes a z v) (accessAddress a z) (sizeBytes z)
      fun k => v.extractLsb' (8 * (sizeBytes z - 1 - k)) 8 :=
  ⟨fun k h => read_storeBytes_inside s a z v k h, fun b h => read_storeBytes_outside s a z v b h,
    fun _ => rfl, rfl, rfl⟩

/-! ## Conditional instructions and branches -/

/-- A conditional set writes the operand, or nothing. -/
theorem conditionalSet_eq (s : State) (c : Condition) (x y : Reg) (z : Word) :
    s.conditionalSet c x y z =
      .next (if conditionHolds c (s.reg y) then (s.setReg x z).advance else s.advance) := by
  unfold State.conditionalSet State.result; split <;> rfl

/-- A zero-or-set writes the operand, or zero. -/
theorem zeroOrSet_eq (s : State) (c : Condition) (x y : Reg) (z : Word) :
    s.zeroOrSet c x y z =
      .next (s.setReg x (if conditionHolds c (s.reg y) then z else 0)).advance := rfl

/-- A branch changes `pc` and nothing else. -/
theorem branch_eq (s : State) (c : Condition) (d : Direction) (x : Reg) (yz : Wyde) :
    s.branch c d x yz =
      .next { s with pc := if conditionHolds c (s.reg x) then branchTarget s.pc d yz
                           else s.pc + 4 } := by
  unfold State.branch; split <;> rfl

end Sys2Proof.Machine
end

