-- ==== Sys2Proof/Laws/PerInstr.lean ====
section
/-! SUPPORT. The family `Named`: the name of an instruction is the chart's name of its operation code
(30_encoding.md R71). The names of `mnemonic` and of the chart are written out separately. -/

namespace Sys2Proof.Laws

/-- The row's mnemonic is the name that the chart gives the encoder's operation code. -/
def Named.Statement (i : Instr) : Prop := mnemonic i = chartName (opcode i)

theorem Named.add (x y z : Reg) : Named.Statement (.add x y z) := rfl
theorem Named.addi (x y : Reg) (z : Byte) : Named.Statement (.addi x y z) := rfl
theorem Named.addu (x y z : Reg) : Named.Statement (.addu x y z) := rfl
theorem Named.addui (x y : Reg) (z : Byte) : Named.Statement (.addui x y z) := rfl
theorem Named.sub (x y z : Reg) : Named.Statement (.sub x y z) := rfl
theorem Named.subi (x y : Reg) (z : Byte) : Named.Statement (.subi x y z) := rfl
theorem Named.subu (x y z : Reg) : Named.Statement (.subu x y z) := rfl
theorem Named.subui (x y : Reg) (z : Byte) : Named.Statement (.subui x y z) := rfl
theorem Named.addu2 (x y z : Reg) : Named.Statement (.addu2 x y z) := rfl
theorem Named.addu2i (x y : Reg) (z : Byte) : Named.Statement (.addu2i x y z) := rfl
theorem Named.addu4 (x y z : Reg) : Named.Statement (.addu4 x y z) := rfl
theorem Named.addu4i (x y : Reg) (z : Byte) : Named.Statement (.addu4i x y z) := rfl
theorem Named.addu8 (x y z : Reg) : Named.Statement (.addu8 x y z) := rfl
theorem Named.addu8i (x y : Reg) (z : Byte) : Named.Statement (.addu8i x y z) := rfl
theorem Named.addu16 (x y z : Reg) : Named.Statement (.addu16 x y z) := rfl
theorem Named.addu16i (x y : Reg) (z : Byte) : Named.Statement (.addu16i x y z) := rfl
theorem Named.cmp (x y z : Reg) : Named.Statement (.cmp x y z) := rfl
theorem Named.cmpi (x y : Reg) (z : Byte) : Named.Statement (.cmpi x y z) := rfl
theorem Named.cmpu (x y z : Reg) : Named.Statement (.cmpu x y z) := rfl
theorem Named.cmpui (x y : Reg) (z : Byte) : Named.Statement (.cmpui x y z) := rfl
theorem Named.neg (x : Reg) (y : Byte) (z : Reg) : Named.Statement (.neg x y z) := rfl
theorem Named.negi (x : Reg) (y z : Byte) : Named.Statement (.negi x y z) := rfl
theorem Named.negu (x : Reg) (y : Byte) (z : Reg) : Named.Statement (.negu x y z) := rfl
theorem Named.negui (x : Reg) (y z : Byte) : Named.Statement (.negui x y z) := rfl
theorem Named.sl (x y z : Reg) : Named.Statement (.sl x y z) := rfl
theorem Named.sli (x y : Reg) (z : Byte) : Named.Statement (.sli x y z) := rfl
theorem Named.slu (x y z : Reg) : Named.Statement (.slu x y z) := rfl
theorem Named.slui (x y : Reg) (z : Byte) : Named.Statement (.slui x y z) := rfl
theorem Named.sr (x y z : Reg) : Named.Statement (.sr x y z) := rfl
theorem Named.sri (x y : Reg) (z : Byte) : Named.Statement (.sri x y z) := rfl
theorem Named.sru (x y z : Reg) : Named.Statement (.sru x y z) := rfl
theorem Named.srui (x y : Reg) (z : Byte) : Named.Statement (.srui x y z) := rfl
theorem Named.bn (x : Reg) (yz : Wyde) : Named.Statement (.bn x yz) := rfl
theorem Named.bnb (x : Reg) (yz : Wyde) : Named.Statement (.bnb x yz) := rfl
theorem Named.bz (x : Reg) (yz : Wyde) : Named.Statement (.bz x yz) := rfl
theorem Named.bzb (x : Reg) (yz : Wyde) : Named.Statement (.bzb x yz) := rfl
theorem Named.bp (x : Reg) (yz : Wyde) : Named.Statement (.bp x yz) := rfl
theorem Named.bpb (x : Reg) (yz : Wyde) : Named.Statement (.bpb x yz) := rfl
theorem Named.bod (x : Reg) (yz : Wyde) : Named.Statement (.bod x yz) := rfl
theorem Named.bodb (x : Reg) (yz : Wyde) : Named.Statement (.bodb x yz) := rfl
theorem Named.bnn (x : Reg) (yz : Wyde) : Named.Statement (.bnn x yz) := rfl
theorem Named.bnnb (x : Reg) (yz : Wyde) : Named.Statement (.bnnb x yz) := rfl
theorem Named.bnz (x : Reg) (yz : Wyde) : Named.Statement (.bnz x yz) := rfl
theorem Named.bnzb (x : Reg) (yz : Wyde) : Named.Statement (.bnzb x yz) := rfl
theorem Named.bnp (x : Reg) (yz : Wyde) : Named.Statement (.bnp x yz) := rfl
theorem Named.bnpb (x : Reg) (yz : Wyde) : Named.Statement (.bnpb x yz) := rfl
theorem Named.bev (x : Reg) (yz : Wyde) : Named.Statement (.bev x yz) := rfl
theorem Named.bevb (x : Reg) (yz : Wyde) : Named.Statement (.bevb x yz) := rfl
theorem Named.pbn (x : Reg) (yz : Wyde) : Named.Statement (.pbn x yz) := rfl
theorem Named.pbnb (x : Reg) (yz : Wyde) : Named.Statement (.pbnb x yz) := rfl
theorem Named.pbz (x : Reg) (yz : Wyde) : Named.Statement (.pbz x yz) := rfl
theorem Named.pbzb (x : Reg) (yz : Wyde) : Named.Statement (.pbzb x yz) := rfl
theorem Named.pbp (x : Reg) (yz : Wyde) : Named.Statement (.pbp x yz) := rfl
theorem Named.pbpb (x : Reg) (yz : Wyde) : Named.Statement (.pbpb x yz) := rfl
theorem Named.pbod (x : Reg) (yz : Wyde) : Named.Statement (.pbod x yz) := rfl
theorem Named.pbodb (x : Reg) (yz : Wyde) : Named.Statement (.pbodb x yz) := rfl
theorem Named.pbnn (x : Reg) (yz : Wyde) : Named.Statement (.pbnn x yz) := rfl
theorem Named.pbnnb (x : Reg) (yz : Wyde) : Named.Statement (.pbnnb x yz) := rfl
theorem Named.pbnz (x : Reg) (yz : Wyde) : Named.Statement (.pbnz x yz) := rfl
theorem Named.pbnzb (x : Reg) (yz : Wyde) : Named.Statement (.pbnzb x yz) := rfl
theorem Named.pbnp (x : Reg) (yz : Wyde) : Named.Statement (.pbnp x yz) := rfl
theorem Named.pbnpb (x : Reg) (yz : Wyde) : Named.Statement (.pbnpb x yz) := rfl
theorem Named.pbev (x : Reg) (yz : Wyde) : Named.Statement (.pbev x yz) := rfl
theorem Named.pbevb (x : Reg) (yz : Wyde) : Named.Statement (.pbevb x yz) := rfl
theorem Named.csn (x y z : Reg) : Named.Statement (.csn x y z) := rfl
theorem Named.csni (x y : Reg) (z : Byte) : Named.Statement (.csni x y z) := rfl
theorem Named.csz (x y z : Reg) : Named.Statement (.csz x y z) := rfl
theorem Named.cszi (x y : Reg) (z : Byte) : Named.Statement (.cszi x y z) := rfl
theorem Named.csp (x y z : Reg) : Named.Statement (.csp x y z) := rfl
theorem Named.cspi (x y : Reg) (z : Byte) : Named.Statement (.cspi x y z) := rfl
theorem Named.csod (x y z : Reg) : Named.Statement (.csod x y z) := rfl
theorem Named.csodi (x y : Reg) (z : Byte) : Named.Statement (.csodi x y z) := rfl
theorem Named.csnn (x y z : Reg) : Named.Statement (.csnn x y z) := rfl
theorem Named.csnni (x y : Reg) (z : Byte) : Named.Statement (.csnni x y z) := rfl
theorem Named.csnz (x y z : Reg) : Named.Statement (.csnz x y z) := rfl
theorem Named.csnzi (x y : Reg) (z : Byte) : Named.Statement (.csnzi x y z) := rfl
theorem Named.csnp (x y z : Reg) : Named.Statement (.csnp x y z) := rfl
theorem Named.csnpi (x y : Reg) (z : Byte) : Named.Statement (.csnpi x y z) := rfl
theorem Named.csev (x y z : Reg) : Named.Statement (.csev x y z) := rfl
theorem Named.csevi (x y : Reg) (z : Byte) : Named.Statement (.csevi x y z) := rfl
theorem Named.zsn (x y z : Reg) : Named.Statement (.zsn x y z) := rfl
theorem Named.zsni (x y : Reg) (z : Byte) : Named.Statement (.zsni x y z) := rfl
theorem Named.zsz (x y z : Reg) : Named.Statement (.zsz x y z) := rfl
theorem Named.zszi (x y : Reg) (z : Byte) : Named.Statement (.zszi x y z) := rfl
theorem Named.zsp (x y z : Reg) : Named.Statement (.zsp x y z) := rfl
theorem Named.zspi (x y : Reg) (z : Byte) : Named.Statement (.zspi x y z) := rfl
theorem Named.zsod (x y z : Reg) : Named.Statement (.zsod x y z) := rfl
theorem Named.zsodi (x y : Reg) (z : Byte) : Named.Statement (.zsodi x y z) := rfl
theorem Named.zsnn (x y z : Reg) : Named.Statement (.zsnn x y z) := rfl
theorem Named.zsnni (x y : Reg) (z : Byte) : Named.Statement (.zsnni x y z) := rfl
theorem Named.zsnz (x y z : Reg) : Named.Statement (.zsnz x y z) := rfl
theorem Named.zsnzi (x y : Reg) (z : Byte) : Named.Statement (.zsnzi x y z) := rfl
theorem Named.zsnp (x y z : Reg) : Named.Statement (.zsnp x y z) := rfl
theorem Named.zsnpi (x y : Reg) (z : Byte) : Named.Statement (.zsnpi x y z) := rfl
theorem Named.zsev (x y z : Reg) : Named.Statement (.zsev x y z) := rfl
theorem Named.zsevi (x y : Reg) (z : Byte) : Named.Statement (.zsevi x y z) := rfl
theorem Named.ldb (x y z : Reg) : Named.Statement (.ldb x y z) := rfl
theorem Named.ldbi (x y : Reg) (z : Byte) : Named.Statement (.ldbi x y z) := rfl
theorem Named.ldbu (x y z : Reg) : Named.Statement (.ldbu x y z) := rfl
theorem Named.ldbui (x y : Reg) (z : Byte) : Named.Statement (.ldbui x y z) := rfl
theorem Named.ldw (x y z : Reg) : Named.Statement (.ldw x y z) := rfl
theorem Named.ldwi (x y : Reg) (z : Byte) : Named.Statement (.ldwi x y z) := rfl
theorem Named.ldwu (x y z : Reg) : Named.Statement (.ldwu x y z) := rfl
theorem Named.ldwui (x y : Reg) (z : Byte) : Named.Statement (.ldwui x y z) := rfl
theorem Named.ldt (x y z : Reg) : Named.Statement (.ldt x y z) := rfl
theorem Named.ldti (x y : Reg) (z : Byte) : Named.Statement (.ldti x y z) := rfl
theorem Named.ldtu (x y z : Reg) : Named.Statement (.ldtu x y z) := rfl
theorem Named.ldtui (x y : Reg) (z : Byte) : Named.Statement (.ldtui x y z) := rfl
theorem Named.ldo (x y z : Reg) : Named.Statement (.ldo x y z) := rfl
theorem Named.ldoi (x y : Reg) (z : Byte) : Named.Statement (.ldoi x y z) := rfl
theorem Named.ldou (x y z : Reg) : Named.Statement (.ldou x y z) := rfl
theorem Named.ldoui (x y : Reg) (z : Byte) : Named.Statement (.ldoui x y z) := rfl
theorem Named.ldht (x y z : Reg) : Named.Statement (.ldht x y z) := rfl
theorem Named.ldhti (x y : Reg) (z : Byte) : Named.Statement (.ldhti x y z) := rfl
theorem Named.stb (x y z : Reg) : Named.Statement (.stb x y z) := rfl
theorem Named.stbi (x y : Reg) (z : Byte) : Named.Statement (.stbi x y z) := rfl
theorem Named.stbu (x y z : Reg) : Named.Statement (.stbu x y z) := rfl
theorem Named.stbui (x y : Reg) (z : Byte) : Named.Statement (.stbui x y z) := rfl
theorem Named.stw (x y z : Reg) : Named.Statement (.stw x y z) := rfl
theorem Named.stwi (x y : Reg) (z : Byte) : Named.Statement (.stwi x y z) := rfl
theorem Named.stwu (x y z : Reg) : Named.Statement (.stwu x y z) := rfl
theorem Named.stwui (x y : Reg) (z : Byte) : Named.Statement (.stwui x y z) := rfl
theorem Named.stt (x y z : Reg) : Named.Statement (.stt x y z) := rfl
theorem Named.stti (x y : Reg) (z : Byte) : Named.Statement (.stti x y z) := rfl
theorem Named.sttu (x y z : Reg) : Named.Statement (.sttu x y z) := rfl
theorem Named.sttui (x y : Reg) (z : Byte) : Named.Statement (.sttui x y z) := rfl
theorem Named.sto (x y z : Reg) : Named.Statement (.sto x y z) := rfl
theorem Named.stoi (x y : Reg) (z : Byte) : Named.Statement (.stoi x y z) := rfl
theorem Named.stou (x y z : Reg) : Named.Statement (.stou x y z) := rfl
theorem Named.stoui (x y : Reg) (z : Byte) : Named.Statement (.stoui x y z) := rfl
theorem Named.stht (x y z : Reg) : Named.Statement (.stht x y z) := rfl
theorem Named.sthti (x y : Reg) (z : Byte) : Named.Statement (.sthti x y z) := rfl
theorem Named.stco (x : Byte) (y z : Reg) : Named.Statement (.stco x y z) := rfl
theorem Named.stcoi (x : Byte) (y : Reg) (z : Byte) : Named.Statement (.stcoi x y z) := rfl
theorem Named.or (x y z : Reg) : Named.Statement (.or x y z) := rfl
theorem Named.ori (x y : Reg) (z : Byte) : Named.Statement (.ori x y z) := rfl
theorem Named.orn (x y z : Reg) : Named.Statement (.orn x y z) := rfl
theorem Named.orni (x y : Reg) (z : Byte) : Named.Statement (.orni x y z) := rfl
theorem Named.nor (x y z : Reg) : Named.Statement (.nor x y z) := rfl
theorem Named.nori (x y : Reg) (z : Byte) : Named.Statement (.nori x y z) := rfl
theorem Named.xor (x y z : Reg) : Named.Statement (.xor x y z) := rfl
theorem Named.xori (x y : Reg) (z : Byte) : Named.Statement (.xori x y z) := rfl
theorem Named.and (x y z : Reg) : Named.Statement (.and x y z) := rfl
theorem Named.andi (x y : Reg) (z : Byte) : Named.Statement (.andi x y z) := rfl
theorem Named.andn (x y z : Reg) : Named.Statement (.andn x y z) := rfl
theorem Named.andni (x y : Reg) (z : Byte) : Named.Statement (.andni x y z) := rfl
theorem Named.nand (x y z : Reg) : Named.Statement (.nand x y z) := rfl
theorem Named.nandi (x y : Reg) (z : Byte) : Named.Statement (.nandi x y z) := rfl
theorem Named.nxor (x y z : Reg) : Named.Statement (.nxor x y z) := rfl
theorem Named.nxori (x y : Reg) (z : Byte) : Named.Statement (.nxori x y z) := rfl
theorem Named.bdif (x y z : Reg) : Named.Statement (.bdif x y z) := rfl
theorem Named.bdifi (x y : Reg) (z : Byte) : Named.Statement (.bdifi x y z) := rfl
theorem Named.wdif (x y z : Reg) : Named.Statement (.wdif x y z) := rfl
theorem Named.wdifi (x y : Reg) (z : Byte) : Named.Statement (.wdifi x y z) := rfl
theorem Named.tdif (x y z : Reg) : Named.Statement (.tdif x y z) := rfl
theorem Named.tdifi (x y : Reg) (z : Byte) : Named.Statement (.tdifi x y z) := rfl
theorem Named.odif (x y z : Reg) : Named.Statement (.odif x y z) := rfl
theorem Named.odifi (x y : Reg) (z : Byte) : Named.Statement (.odifi x y z) := rfl
theorem Named.mux (x y z : Reg) : Named.Statement (.mux x y z) := rfl
theorem Named.muxi (x y : Reg) (z : Byte) : Named.Statement (.muxi x y z) := rfl
theorem Named.sadd (x y z : Reg) : Named.Statement (.sadd x y z) := rfl
theorem Named.saddi (x y : Reg) (z : Byte) : Named.Statement (.saddi x y z) := rfl
theorem Named.mor (x y z : Reg) : Named.Statement (.mor x y z) := rfl
theorem Named.mori (x y : Reg) (z : Byte) : Named.Statement (.mori x y z) := rfl
theorem Named.mxor (x y z : Reg) : Named.Statement (.mxor x y z) := rfl
theorem Named.mxori (x y : Reg) (z : Byte) : Named.Statement (.mxori x y z) := rfl
theorem Named.seth (x : Reg) (yz : Wyde) : Named.Statement (.seth x yz) := rfl
theorem Named.setmh (x : Reg) (yz : Wyde) : Named.Statement (.setmh x yz) := rfl
theorem Named.setml (x : Reg) (yz : Wyde) : Named.Statement (.setml x yz) := rfl
theorem Named.setl (x : Reg) (yz : Wyde) : Named.Statement (.setl x yz) := rfl
theorem Named.inch (x : Reg) (yz : Wyde) : Named.Statement (.inch x yz) := rfl
theorem Named.incmh (x : Reg) (yz : Wyde) : Named.Statement (.incmh x yz) := rfl
theorem Named.incml (x : Reg) (yz : Wyde) : Named.Statement (.incml x yz) := rfl
theorem Named.incl (x : Reg) (yz : Wyde) : Named.Statement (.incl x yz) := rfl
theorem Named.orh (x : Reg) (yz : Wyde) : Named.Statement (.orh x yz) := rfl
theorem Named.ormh (x : Reg) (yz : Wyde) : Named.Statement (.ormh x yz) := rfl
theorem Named.orml (x : Reg) (yz : Wyde) : Named.Statement (.orml x yz) := rfl
theorem Named.orl (x : Reg) (yz : Wyde) : Named.Statement (.orl x yz) := rfl
theorem Named.andnh (x : Reg) (yz : Wyde) : Named.Statement (.andnh x yz) := rfl
theorem Named.andnmh (x : Reg) (yz : Wyde) : Named.Statement (.andnmh x yz) := rfl
theorem Named.andnml (x : Reg) (yz : Wyde) : Named.Statement (.andnml x yz) := rfl
theorem Named.andnl (x : Reg) (yz : Wyde) : Named.Statement (.andnl x yz) := rfl
theorem Named.trap : Named.Statement .trap := rfl
theorem Named.fcmp : Named.Statement .fcmp := rfl
theorem Named.fun_ : Named.Statement .fun_ := rfl
theorem Named.feql : Named.Statement .feql := rfl
theorem Named.fadd : Named.Statement .fadd := rfl
theorem Named.fix : Named.Statement .fix := rfl
theorem Named.fsub : Named.Statement .fsub := rfl
theorem Named.fixu : Named.Statement .fixu := rfl
theorem Named.flot : Named.Statement .flot := rfl
theorem Named.floti : Named.Statement .floti := rfl
theorem Named.flotu : Named.Statement .flotu := rfl
theorem Named.flotui : Named.Statement .flotui := rfl
theorem Named.sflot : Named.Statement .sflot := rfl
theorem Named.sfloti : Named.Statement .sfloti := rfl
theorem Named.sflotu : Named.Statement .sflotu := rfl
theorem Named.sflotui : Named.Statement .sflotui := rfl
theorem Named.fmul : Named.Statement .fmul := rfl
theorem Named.fcmpe : Named.Statement .fcmpe := rfl
theorem Named.fune : Named.Statement .fune := rfl
theorem Named.feqle : Named.Statement .feqle := rfl
theorem Named.fdiv : Named.Statement .fdiv := rfl
theorem Named.fsqrt : Named.Statement .fsqrt := rfl
theorem Named.frem : Named.Statement .frem := rfl
theorem Named.fint : Named.Statement .fint := rfl
theorem Named.mul : Named.Statement .mul := rfl
theorem Named.muli : Named.Statement .muli := rfl
theorem Named.mulu : Named.Statement .mulu := rfl
theorem Named.mului : Named.Statement .mului := rfl
theorem Named.div : Named.Statement .div := rfl
theorem Named.divi : Named.Statement .divi := rfl
theorem Named.divu : Named.Statement .divu := rfl
theorem Named.divui : Named.Statement .divui := rfl
theorem Named.ldsf : Named.Statement .ldsf := rfl
theorem Named.ldsfi : Named.Statement .ldsfi := rfl
theorem Named.cswap : Named.Statement .cswap := rfl
theorem Named.cswapi : Named.Statement .cswapi := rfl
theorem Named.ldunc : Named.Statement .ldunc := rfl
theorem Named.ldunci : Named.Statement .ldunci := rfl
theorem Named.ldvts : Named.Statement .ldvts := rfl
theorem Named.ldvtsi : Named.Statement .ldvtsi := rfl
theorem Named.preld : Named.Statement .preld := rfl
theorem Named.preldi : Named.Statement .preldi := rfl
theorem Named.prego : Named.Statement .prego := rfl
theorem Named.pregoi : Named.Statement .pregoi := rfl
theorem Named.go : Named.Statement .go := rfl
theorem Named.goi : Named.Statement .goi := rfl
theorem Named.stsf : Named.Statement .stsf := rfl
theorem Named.stsfi : Named.Statement .stsfi := rfl
theorem Named.stunc : Named.Statement .stunc := rfl
theorem Named.stunci : Named.Statement .stunci := rfl
theorem Named.syncd : Named.Statement .syncd := rfl
theorem Named.syncdi : Named.Statement .syncdi := rfl
theorem Named.prest : Named.Statement .prest := rfl
theorem Named.presti : Named.Statement .presti := rfl
theorem Named.syncid : Named.Statement .syncid := rfl
theorem Named.syncidi : Named.Statement .syncidi := rfl
theorem Named.pushgo : Named.Statement .pushgo := rfl
theorem Named.pushgoi : Named.Statement .pushgoi := rfl
theorem Named.jmp : Named.Statement .jmp := rfl
theorem Named.jmpb : Named.Statement .jmpb := rfl
theorem Named.pushj : Named.Statement .pushj := rfl
theorem Named.pushjb : Named.Statement .pushjb := rfl
theorem Named.geta : Named.Statement .geta := rfl
theorem Named.getab : Named.Statement .getab := rfl
theorem Named.put : Named.Statement .put := rfl
theorem Named.puti : Named.Statement .puti := rfl
theorem Named.pop : Named.Statement .pop := rfl
theorem Named.resume : Named.Statement .resume := rfl
theorem Named.save : Named.Statement .save := rfl
theorem Named.unsave : Named.Statement .unsave := rfl
theorem Named.sync : Named.Statement .sync := rfl
theorem Named.swym : Named.Statement .swym := rfl
theorem Named.get : Named.Statement .get := rfl
theorem Named.trip : Named.Statement .trip := rfl

end Sys2Proof.Laws
end

