-- ==== Sys2Proof/Laws/Words.lean ====
section
/-! SUPPORT. The numbers and bits that the values of the instructions are made of. -/

namespace Sys2Proof.Machine

/-! ## Readings -/

/-- The low 64 bits of an integer that is the signed reading of a value are that value. -/
@[simp] theorem u64_signed (v : Word) : u64 (signed v) = v := BitVec.ofInt_toInt

/-- The low 64 bits of a natural number. -/
theorem u64_natCast (n : Nat) : u64 (n : Int) = BitVec.ofNat 64 n := BitVec.ofInt_natCast _ _

theorem toNat_u64_natCast (n : Nat) : (u64 (n : Int)).toNat = n % 2 ^ 64 := by
  rw [u64_natCast, BitVec.toNat_ofNat]

/-- An integer in the signed range is the signed reading of its low 64 bits. -/
theorem signed_u64 (i : Int) (h1 : -(2 ^ 63) ≤ i) (h2 : i < 2 ^ 63) : signed (u64 i) = i := by
  simp only [signed, u64, BitVec.toInt_ofInt, Int.bmod_def]
  omega

/-- The signed reading lies in the signed range (00_scope.md R8). -/
theorem signed_range (v : Word) : -(2 ^ 63) ≤ signed v ∧ signed v < 2 ^ 63 := by
  have h1 := @BitVec.le_toInt 64 v
  have h2 := @BitVec.toInt_lt 64 v
  simp only [signed]; omega

@[simp] theorem toNat_immediate (z : Byte) : (immediate z).toNat = z.toNat := by
  have := z.isLt
  simp [immediate]; omega

@[simp] theorem signed_immediate (z : Byte) : signed (immediate z) = z.toNat := by
  have := z.isLt
  rw [signed, BitVec.toInt_eq_toNat_of_lt (by rw [toNat_immediate]; omega), toNat_immediate]

/-- The sum of two values with the low 64 bits kept (20_memory.md R44). -/
theorem effectiveAddress_eq (y z : Word) : effectiveAddress y z = y + z := by
  apply BitVec.eq_of_toNat_eq
  rw [effectiveAddress, ← Int.natCast_add, toNat_u64_natCast, BitVec.toNat_add]

theorem overflows_iff (t : Int) : overflows t = true ↔ 2 ^ 63 ≤ t ∨ t < -(2 ^ 63) := by
  simp [overflows]

/-! ## Values given bit by bit -/

theorem bitsBelow_lt (f : Nat → Bool) (n : Nat) : bitsBelow f n < 2 ^ n := by
  induction n with
  | zero => simp [bitsBelow]
  | succ n ih => rw [bitsBelow, pow_succ]; split <;> omega

theorem testBit_bitsBelow (f : Nat → Bool) (n i : Nat) :
    (bitsBelow f n).testBit i = (decide (i < n) && f i) := by
  induction n with
  | zero => simp [bitsBelow]
  | succ n ih =>
    have hlt := bitsBelow_lt f (n + 1)
    rcases Nat.lt_trichotomy i n with h | h | h
    · rw [bitsBelow, decide_eq_true (by omega : i < n + 1)]
      rw [decide_eq_true h] at ih
      split
      · rw [Nat.add_comm, Nat.testBit_two_pow_add_gt h, ih]
      · exact ih
    · subst h
      rw [decide_eq_false (Nat.lt_irrefl _)] at ih
      rw [bitsBelow, decide_eq_true (by omega : i < i + 1)]
      split
      · next hf => rw [Nat.add_comm, Nat.testBit_two_pow_add_eq, ih]; simp [hf]
      · next hf => rw [Nat.add_zero, ih]; simp [hf]
    · rw [decide_eq_false (by omega : ¬ i < n + 1), Bool.false_and]
      exact Nat.testBit_lt_two_pow (Nat.lt_of_lt_of_le hlt (Nat.pow_le_pow_right (by omega) h))

/-- Bit p of a value given bit by bit. -/
theorem getLsbD_wordOfBits (f : Nat → Bool) (p : Nat) :
    (wordOfBits f).getLsbD p = (decide (p < 64) && f p) := by
  rw [wordOfBits, BitVec.getLsbD_ofNat, testBit_bitsBelow]
  cases decide (p < 64) <;> simp

/-- Entry ij of a matrix product, i and j from 0 to 7 (42_bitwise.md R157, R158). -/
theorem matrixBit_matrixProduct (op : Bool → Bool → Bool) (y z : Word) (i j : Nat) (hi : i < 8)
    (hj : j < 8) : matrixBit (matrixProduct op y z) i j = matrixEntry op y z i j := by
  rw [matrixBit, matrixProduct, getLsbD_wordOfBits]
  rw [show (63 - (63 - 8 * i - j)) / 8 = i by omega, show (63 - (63 - 8 * i - j)) % 8 = j by omega,
    decide_eq_true (by omega), Bool.true_and]

/-! ## Lanes -/

theorem lane_lt (w j : Nat) (v : Word) : lane w j v < 2 ^ w := Nat.mod_lt _ (Nat.two_pow_pos w)

theorem lanesDifference_lt (w : Nat) (y z : Word) (n : Nat) :
    lanesDifference w y z n < 2 ^ (w * n) := by
  induction n with
  | zero => simp [lanesDifference]
  | succ n ih =>
    have hl : lane w n y - lane w n z < 2 ^ w := Nat.lt_of_le_of_lt (Nat.sub_le _ _) (lane_lt w n y)
    rw [lanesDifference, Nat.mul_succ, pow_add]
    have : (lane w n y - lane w n z + 1) * 2 ^ (w * n) ≤ 2 ^ w * 2 ^ (w * n) :=
      Nat.mul_le_mul_right _ hl
    rw [Nat.add_mul, Nat.one_mul] at this
    rw [Nat.mul_comm (2 ^ (w * n)) (2 ^ w)]
    omega

/-- Lane j of the saturating differences of the n low lanes. -/
theorem lanesDifference_lane (w : Nat) (y z : Word) (n j : Nat) (h : j < n) :
    lanesDifference w y z n / 2 ^ (w * j) % 2 ^ w = lane w j y - lane w j z := by
  induction n with
  | zero => omega
  | succ n ih =>
    have hlane (k : Nat) : lane w k y - lane w k z < 2 ^ w :=
      Nat.lt_of_le_of_lt (Nat.sub_le _ _) (lane_lt w k y)
    rw [lanesDifference]
    by_cases hj : j = n
    · subst hj
      rw [Nat.add_mul_div_right _ _ (Nat.two_pow_pos _),
        Nat.div_eq_of_lt (lanesDifference_lt w y z j), Nat.zero_add, Nat.mod_eq_of_lt (hlane j)]
    · rw [← ih (by omega)]
      have hsplit : w * n = w * j + w + w * (n - j - 1) := by
        rw [← Nat.mul_succ, ← Nat.mul_add]; congr 1; omega
      rw [hsplit, pow_add, pow_add, Nat.mul_comm (2 ^ (w * j) * 2 ^ w), ← Nat.mul_assoc,
        Nat.mul_comm (2 ^ (w * j)), ← Nat.mul_assoc, Nat.add_mul_div_right _ _ (Nat.two_pow_pos _),
        Nat.add_mul_mod_self_right]

end Sys2Proof.Machine
end

