-- ==== Sys2Proof/Laws/Step.lean ====
section
/-! SUPPORT. Once, everything that an instruction that completes can have done to the state. -/

namespace Sys2Proof.Machine

/-- What `ovf` is after an instruction that completes: as it was, or set by the exception under
`record`. -/
def OverflowAfter (i : Instr) (s : State) (b : Bool) : Prop :=
  b = s.ovf ∨ (canOverflow i = true ∧ s.env.overflowResponse = .record ∧ b = true)

/-- The four things an instruction that completes can do. -/
inductive Effect (i : Instr) (s : State) : State → Prop where
  /-- It writes its destination register. -/
  | register (x : Reg) (v : Word) (b : Bool) (hd : destination i = some x)
      (hb : OverflowAfter i s b) : Effect i s ({ s.setReg x v with ovf := b } : State).advance
  /-- It does nothing: a conditional set whose condition fails. -/
  | nothing : Effect i s s.advance
  /-- It stores. -/
  | store (a : Word) (z : Size) (v : Word) (b : Bool)
      (ha : storedAccess i s = some (accessAddress a z, sizeBytes z))
      (hm : s.env.mappedRange (accessAddress a z) (sizeBytes z) = true)
      (ht : s.env.meetsText (accessAddress a z) (sizeBytes z) = false)
      (hb : OverflowAfter i s b) : Effect i s ({ s.storeBytes a z v with ovf := b } : State).advance
  /-- It branches. -/
  | branch (d : Direction) (yz : Wyde) : Effect i s { s with pc := branchTarget s.pc d yz }

theorem effect_of_result {i : Instr} {s t : State} {x : Reg} {v : Word} (hd : destination i = some x)
    (h : s.result x v = .next t) : Effect i s t := by
  rw [result_eq_next] at h
  subst h
  exact .register x v s.ovf hd (.inl rfl)

theorem effect_of_complete {i : Instr} {s t : State} {x : Reg} {v : Word} {o : Bool}
    (hd : destination i = some x) (hc : canOverflow i = true)
    (h : (s.setReg x v).complete o = .next t) : Effect i s t := by
  rcases (complete_eq_next _ _ _).1 h with ⟨-, rfl⟩ | ⟨-, hr, rfl⟩
  · exact .register x v s.ovf hd (.inl rfl)
  · exact .register x v true hd (.inr ⟨hc, hr, rfl⟩)

theorem effect_of_load {i : Instr} {s t : State} {x : Reg} {a : Word} {z : Size} {f : Nat → Word}
    (hd : destination i = some x) (h : s.load x a z f = .next t) : Effect i s t := by
  obtain ⟨-, bytes, -, rfl⟩ := (load_eq_next _ _ _ _ _ _).1 h
  exact .register x _ s.ovf hd (.inl rfl)

theorem effect_of_store {i : Instr} {s t : State} {a : Word} {z : Size} {v : Word} {o : Bool}
    (ha : storedAccess i s = some (accessAddress a z, sizeBytes z))
    (hc : o = false ∨ canOverflow i = true) (h : s.store a z v o = .next t) : Effect i s t := by
  obtain ⟨hm, ht, h⟩ := (store_eq_next _ _ _ _ _ _).1 h
  rcases (complete_eq_next _ _ _).1 h with ⟨-, rfl⟩ | ⟨ho, hr, rfl⟩
  · exact .store a z v s.ovf ha hm ht (.inl rfl)
  · refine .store a z v true ha hm ht (.inr ⟨?_, hr, rfl⟩)
    rcases hc with hc | hc
    · rw [hc] at ho; cases ho
    · exact hc

theorem effect_of_conditionalSet {i : Instr} {s t : State} {c : Condition} {x y : Reg} {z : Word}
    (hd : destination i = some x) (h : s.conditionalSet c x y z = .next t) : Effect i s t := by
  rw [conditionalSet_eq] at h
  injection h with h
  subst h
  split
  · exact .register x z s.ovf hd (.inl rfl)
  · exact .nothing

theorem effect_of_branch {i : Instr} {s t : State} {c : Condition} {d : Direction} {x : Reg}
    {yz : Wyde} (h : s.branch c d x yz = .next t) : Effect i s t := by
  rw [branch_eq] at h
  injection h with h
  subst h
  split
  · exact .branch d yz
  · exact .nothing

/-- An instruction that completes has done one of the four things of `Effect`. -/
theorem exec_next {i : Instr} {s t : State} (h : exec i s = .next t) : Effect i s t := by
  cases i <;> first
    | exact effect_of_result rfl h
    | exact effect_of_complete rfl rfl h
    | exact effect_of_load rfl h
    | exact effect_of_store rfl (.inl rfl) h
    | exact effect_of_store rfl (.inr rfl) h
    | exact effect_of_conditionalSet rfl h
    | exact effect_of_branch h
    | cases h

/-- A step that answers a next state has fetched an instruction inside the program text, away from the
exits, and executed it. -/
theorem step_next {s t : State} (h : step s = .next t) :
    s.atExit = false ∧ s.inText = true ∧ ∃ w, s.fetch = .ok w ∧ exec (decode w) s = .next t := by
  unfold step at h
  cases he : s.atExit <;> cases hi : s.inText <;> simp only [he, hi, Bool.false_eq_true, if_true,
    if_false, reduceCtorEq] at h
  refine ⟨rfl, rfl, ?_⟩
  cases hf : s.fetch with
  | error a => rw [hf] at h; cases h
  | ok w => rw [hf] at h; exact ⟨w, rfl, h⟩

end Sys2Proof.Machine
end

