-- ==== Sys2Proof/Tests/Slice0.lean ====
section
/-! SUPPORT. The model's own tests: a launch that each well-formedness check refuses, the decoding of
every operation code, one step of most operation codes with the numbers of
96_test_vectors_by_family.md, Part B, and, for every statement with hypotheses, states and operands that
meet them. -/

namespace Sys2Proof.Tests

open Sys2Proof.Machine

/-- A state with the registers and memory bytes given, two instructions of text at #100 and an exit at
#110. -/
def machine (regs : List (Reg × Word)) (mem : List (Nat × Byte)) (r : OverflowResponse) : State :=
  State.ofLaunch
    { Launch.standard with
      initReg := regs, initMem := mem, text := [(0x100, 0x20010203), (0x104, 0x43010000)],
      exit := [0x110], overflowResponse := r }

/-- The memory of Part B1. -/
def loadBytes : List (Nat × Byte) :=
  [(0x1000, 0x81), (0x1001, 0x23), (0x1002, 0x45), (0x1003, 0x67), (0x1004, 0x89), (0x1005, 0xAB),
    (0x1006, 0xCD), (0x1007, 0xEF)]

/-- The memory of Part B2: sixteen zero bytes from #2000 on. -/
def zeroBytes : List (Nat × Byte) := (List.range 16).map fun k => (0x2000 + k, 0)

/-- The register and `ovf` after an instruction that completes. -/
def registerAfter (o : Result) (x : Reg) : Option (Word × Bool) :=
  match o with
  | .next t => some (t.reg x, t.ovf)
  | _ => none

/-- `pc` after an instruction that completes. -/
def pcAfter (o : Result) : Option Word :=
  match o with
  | .next t => some t.pc
  | _ => none

/-- The bytes of some addresses and `ovf` after an instruction that completes. -/
def bytesAfter (o : Result) (addresses : List Nat) : Option (List (Option Byte) × Bool) :=
  match o with
  | .next t => some (addresses.map t.mem.read, t.ovf)
  | _ => none

/-! ## Well-formedness

An instruction has no check to fail: the types of its operands hold only legal values
(30_encoding.md R76). Each check of a launch refuses a launch that breaks it. -/

theorem test_instruction_wellFormed : (Instr.add 255 255 255).wellFormed = true := by decide

theorem test_launch_standard_wellFormed : Launch.standard.wellFormed = true := by decide

theorem test_launch_pc_misaligned_refused :
    ({ Launch.standard with initPc := 0x102 } : Launch).wellFormed = false := by
  decide

theorem test_launch_text_misaligned_refused :
    ({ Launch.standard with text := [(0x102, 0x20010203)] } : Launch).wellFormed = false := by
  decide

theorem test_launch_text_twice_refused :
    ({ Launch.standard with text := [(0x100, 0x20010203), (0x100, 0x21010105)] } : Launch).wellFormed = false := by
  decide

theorem test_launch_text_outside_memory_refused :
    ({ Launch.standard with text := [(2 ^ 64, 0x20010203)] } : Launch).wellFormed = false := by
  decide

theorem test_launch_exit_misaligned_refused :
    ({ Launch.standard with exit := [0x106] } : Launch).wellFormed = false := by
  decide

theorem test_launch_exit_in_text_refused :
    ({ Launch.standard with text := [(0x100, 0x20010203)], exit := [0x100] } : Launch).wellFormed = false := by
  decide

theorem test_launch_register_twice_refused :
    ({ Launch.standard with initReg := [(1, 5), (1, 6)] } : Launch).wellFormed = false := by
  decide

theorem test_launch_memory_twice_refused :
    ({ Launch.standard with initMem := [(0x2000, 1), (0x2000, 2)] } : Launch).wellFormed = false := by
  decide

theorem test_launch_memory_outside_refused :
    ({ Launch.standard with initMem := [(2 ^ 64, 1)] } : Launch).wellFormed = false := by
  decide

theorem test_launch_mapped_empty_range_refused :
    ({ Launch.standard with mapped := [⟨8, 7⟩] } : Launch).wellFormed = false := by
  decide

theorem test_launch_mapped_outside_refused :
    ({ Launch.standard with mapped := [⟨0, 2 ^ 64⟩] } : Launch).wellFormed = false := by
  decide

/-! ## Decoding

Every operation code of the chart (30_encoding.md R71), its word written out as OP X Y Z with X = 1,
Y = 2, Z = 3 (YZ = #0203). -/

theorem test_decode_00_to_07 :
    decode 0x00010203 = .trap ∧
    decode 0x01010203 = .fcmp ∧
    decode 0x02010203 = .fun_ ∧
    decode 0x03010203 = .feql ∧
    decode 0x04010203 = .fadd ∧
    decode 0x05010203 = .fix ∧
    decode 0x06010203 = .fsub ∧
    decode 0x07010203 = .fixu := by
  decide

theorem test_decode_08_to_0F :
    decode 0x08010203 = .flot ∧
    decode 0x09010203 = .floti ∧
    decode 0x0A010203 = .flotu ∧
    decode 0x0B010203 = .flotui ∧
    decode 0x0C010203 = .sflot ∧
    decode 0x0D010203 = .sfloti ∧
    decode 0x0E010203 = .sflotu ∧
    decode 0x0F010203 = .sflotui := by
  decide

theorem test_decode_10_to_17 :
    decode 0x10010203 = .fmul ∧
    decode 0x11010203 = .fcmpe ∧
    decode 0x12010203 = .fune ∧
    decode 0x13010203 = .feqle ∧
    decode 0x14010203 = .fdiv ∧
    decode 0x15010203 = .fsqrt ∧
    decode 0x16010203 = .frem ∧
    decode 0x17010203 = .fint := by
  decide

theorem test_decode_18_to_1F :
    decode 0x18010203 = .mul ∧
    decode 0x19010203 = .muli ∧
    decode 0x1A010203 = .mulu ∧
    decode 0x1B010203 = .mului ∧
    decode 0x1C010203 = .div ∧
    decode 0x1D010203 = .divi ∧
    decode 0x1E010203 = .divu ∧
    decode 0x1F010203 = .divui := by
  decide

theorem test_decode_20_to_27 :
    decode 0x20010203 = .add 1 2 3 ∧
    decode 0x21010203 = .addi 1 2 3 ∧
    decode 0x22010203 = .addu 1 2 3 ∧
    decode 0x23010203 = .addui 1 2 3 ∧
    decode 0x24010203 = .sub 1 2 3 ∧
    decode 0x25010203 = .subi 1 2 3 ∧
    decode 0x26010203 = .subu 1 2 3 ∧
    decode 0x27010203 = .subui 1 2 3 := by
  decide

theorem test_decode_28_to_2F :
    decode 0x28010203 = .addu2 1 2 3 ∧
    decode 0x29010203 = .addu2i 1 2 3 ∧
    decode 0x2A010203 = .addu4 1 2 3 ∧
    decode 0x2B010203 = .addu4i 1 2 3 ∧
    decode 0x2C010203 = .addu8 1 2 3 ∧
    decode 0x2D010203 = .addu8i 1 2 3 ∧
    decode 0x2E010203 = .addu16 1 2 3 ∧
    decode 0x2F010203 = .addu16i 1 2 3 := by
  decide

theorem test_decode_30_to_37 :
    decode 0x30010203 = .cmp 1 2 3 ∧
    decode 0x31010203 = .cmpi 1 2 3 ∧
    decode 0x32010203 = .cmpu 1 2 3 ∧
    decode 0x33010203 = .cmpui 1 2 3 ∧
    decode 0x34010203 = .neg 1 2 3 ∧
    decode 0x35010203 = .negi 1 2 3 ∧
    decode 0x36010203 = .negu 1 2 3 ∧
    decode 0x37010203 = .negui 1 2 3 := by
  decide

theorem test_decode_38_to_3F :
    decode 0x38010203 = .sl 1 2 3 ∧
    decode 0x39010203 = .sli 1 2 3 ∧
    decode 0x3A010203 = .slu 1 2 3 ∧
    decode 0x3B010203 = .slui 1 2 3 ∧
    decode 0x3C010203 = .sr 1 2 3 ∧
    decode 0x3D010203 = .sri 1 2 3 ∧
    decode 0x3E010203 = .sru 1 2 3 ∧
    decode 0x3F010203 = .srui 1 2 3 := by
  decide

theorem test_decode_40_to_47 :
    decode 0x40010203 = .bn 1 0x0203 ∧
    decode 0x41010203 = .bnb 1 0x0203 ∧
    decode 0x42010203 = .bz 1 0x0203 ∧
    decode 0x43010203 = .bzb 1 0x0203 ∧
    decode 0x44010203 = .bp 1 0x0203 ∧
    decode 0x45010203 = .bpb 1 0x0203 ∧
    decode 0x46010203 = .bod 1 0x0203 ∧
    decode 0x47010203 = .bodb 1 0x0203 := by
  decide

theorem test_decode_48_to_4F :
    decode 0x48010203 = .bnn 1 0x0203 ∧
    decode 0x49010203 = .bnnb 1 0x0203 ∧
    decode 0x4A010203 = .bnz 1 0x0203 ∧
    decode 0x4B010203 = .bnzb 1 0x0203 ∧
    decode 0x4C010203 = .bnp 1 0x0203 ∧
    decode 0x4D010203 = .bnpb 1 0x0203 ∧
    decode 0x4E010203 = .bev 1 0x0203 ∧
    decode 0x4F010203 = .bevb 1 0x0203 := by
  decide

theorem test_decode_50_to_57 :
    decode 0x50010203 = .pbn 1 0x0203 ∧
    decode 0x51010203 = .pbnb 1 0x0203 ∧
    decode 0x52010203 = .pbz 1 0x0203 ∧
    decode 0x53010203 = .pbzb 1 0x0203 ∧
    decode 0x54010203 = .pbp 1 0x0203 ∧
    decode 0x55010203 = .pbpb 1 0x0203 ∧
    decode 0x56010203 = .pbod 1 0x0203 ∧
    decode 0x57010203 = .pbodb 1 0x0203 := by
  decide

theorem test_decode_58_to_5F :
    decode 0x58010203 = .pbnn 1 0x0203 ∧
    decode 0x59010203 = .pbnnb 1 0x0203 ∧
    decode 0x5A010203 = .pbnz 1 0x0203 ∧
    decode 0x5B010203 = .pbnzb 1 0x0203 ∧
    decode 0x5C010203 = .pbnp 1 0x0203 ∧
    decode 0x5D010203 = .pbnpb 1 0x0203 ∧
    decode 0x5E010203 = .pbev 1 0x0203 ∧
    decode 0x5F010203 = .pbevb 1 0x0203 := by
  decide

theorem test_decode_60_to_67 :
    decode 0x60010203 = .csn 1 2 3 ∧
    decode 0x61010203 = .csni 1 2 3 ∧
    decode 0x62010203 = .csz 1 2 3 ∧
    decode 0x63010203 = .cszi 1 2 3 ∧
    decode 0x64010203 = .csp 1 2 3 ∧
    decode 0x65010203 = .cspi 1 2 3 ∧
    decode 0x66010203 = .csod 1 2 3 ∧
    decode 0x67010203 = .csodi 1 2 3 := by
  decide

theorem test_decode_68_to_6F :
    decode 0x68010203 = .csnn 1 2 3 ∧
    decode 0x69010203 = .csnni 1 2 3 ∧
    decode 0x6A010203 = .csnz 1 2 3 ∧
    decode 0x6B010203 = .csnzi 1 2 3 ∧
    decode 0x6C010203 = .csnp 1 2 3 ∧
    decode 0x6D010203 = .csnpi 1 2 3 ∧
    decode 0x6E010203 = .csev 1 2 3 ∧
    decode 0x6F010203 = .csevi 1 2 3 := by
  decide

theorem test_decode_70_to_77 :
    decode 0x70010203 = .zsn 1 2 3 ∧
    decode 0x71010203 = .zsni 1 2 3 ∧
    decode 0x72010203 = .zsz 1 2 3 ∧
    decode 0x73010203 = .zszi 1 2 3 ∧
    decode 0x74010203 = .zsp 1 2 3 ∧
    decode 0x75010203 = .zspi 1 2 3 ∧
    decode 0x76010203 = .zsod 1 2 3 ∧
    decode 0x77010203 = .zsodi 1 2 3 := by
  decide

theorem test_decode_78_to_7F :
    decode 0x78010203 = .zsnn 1 2 3 ∧
    decode 0x79010203 = .zsnni 1 2 3 ∧
    decode 0x7A010203 = .zsnz 1 2 3 ∧
    decode 0x7B010203 = .zsnzi 1 2 3 ∧
    decode 0x7C010203 = .zsnp 1 2 3 ∧
    decode 0x7D010203 = .zsnpi 1 2 3 ∧
    decode 0x7E010203 = .zsev 1 2 3 ∧
    decode 0x7F010203 = .zsevi 1 2 3 := by
  decide

theorem test_decode_80_to_87 :
    decode 0x80010203 = .ldb 1 2 3 ∧
    decode 0x81010203 = .ldbi 1 2 3 ∧
    decode 0x82010203 = .ldbu 1 2 3 ∧
    decode 0x83010203 = .ldbui 1 2 3 ∧
    decode 0x84010203 = .ldw 1 2 3 ∧
    decode 0x85010203 = .ldwi 1 2 3 ∧
    decode 0x86010203 = .ldwu 1 2 3 ∧
    decode 0x87010203 = .ldwui 1 2 3 := by
  decide

theorem test_decode_88_to_8F :
    decode 0x88010203 = .ldt 1 2 3 ∧
    decode 0x89010203 = .ldti 1 2 3 ∧
    decode 0x8A010203 = .ldtu 1 2 3 ∧
    decode 0x8B010203 = .ldtui 1 2 3 ∧
    decode 0x8C010203 = .ldo 1 2 3 ∧
    decode 0x8D010203 = .ldoi 1 2 3 ∧
    decode 0x8E010203 = .ldou 1 2 3 ∧
    decode 0x8F010203 = .ldoui 1 2 3 := by
  decide

theorem test_decode_90_to_97 :
    decode 0x90010203 = .ldsf ∧
    decode 0x91010203 = .ldsfi ∧
    decode 0x92010203 = .ldht 1 2 3 ∧
    decode 0x93010203 = .ldhti 1 2 3 ∧
    decode 0x94010203 = .cswap ∧
    decode 0x95010203 = .cswapi ∧
    decode 0x96010203 = .ldunc ∧
    decode 0x97010203 = .ldunci := by
  decide

theorem test_decode_98_to_9F :
    decode 0x98010203 = .ldvts ∧
    decode 0x99010203 = .ldvtsi ∧
    decode 0x9A010203 = .preld ∧
    decode 0x9B010203 = .preldi ∧
    decode 0x9C010203 = .prego ∧
    decode 0x9D010203 = .pregoi ∧
    decode 0x9E010203 = .go ∧
    decode 0x9F010203 = .goi := by
  decide

theorem test_decode_A0_to_A7 :
    decode 0xA0010203 = .stb 1 2 3 ∧
    decode 0xA1010203 = .stbi 1 2 3 ∧
    decode 0xA2010203 = .stbu 1 2 3 ∧
    decode 0xA3010203 = .stbui 1 2 3 ∧
    decode 0xA4010203 = .stw 1 2 3 ∧
    decode 0xA5010203 = .stwi 1 2 3 ∧
    decode 0xA6010203 = .stwu 1 2 3 ∧
    decode 0xA7010203 = .stwui 1 2 3 := by
  decide

theorem test_decode_A8_to_AF :
    decode 0xA8010203 = .stt 1 2 3 ∧
    decode 0xA9010203 = .stti 1 2 3 ∧
    decode 0xAA010203 = .sttu 1 2 3 ∧
    decode 0xAB010203 = .sttui 1 2 3 ∧
    decode 0xAC010203 = .sto 1 2 3 ∧
    decode 0xAD010203 = .stoi 1 2 3 ∧
    decode 0xAE010203 = .stou 1 2 3 ∧
    decode 0xAF010203 = .stoui 1 2 3 := by
  decide

theorem test_decode_B0_to_B7 :
    decode 0xB0010203 = .stsf ∧
    decode 0xB1010203 = .stsfi ∧
    decode 0xB2010203 = .stht 1 2 3 ∧
    decode 0xB3010203 = .sthti 1 2 3 ∧
    decode 0xB4010203 = .stco 1 2 3 ∧
    decode 0xB5010203 = .stcoi 1 2 3 ∧
    decode 0xB6010203 = .stunc ∧
    decode 0xB7010203 = .stunci := by
  decide

theorem test_decode_B8_to_BF :
    decode 0xB8010203 = .syncd ∧
    decode 0xB9010203 = .syncdi ∧
    decode 0xBA010203 = .prest ∧
    decode 0xBB010203 = .presti ∧
    decode 0xBC010203 = .syncid ∧
    decode 0xBD010203 = .syncidi ∧
    decode 0xBE010203 = .pushgo ∧
    decode 0xBF010203 = .pushgoi := by
  decide

theorem test_decode_C0_to_C7 :
    decode 0xC0010203 = .or 1 2 3 ∧
    decode 0xC1010203 = .ori 1 2 3 ∧
    decode 0xC2010203 = .orn 1 2 3 ∧
    decode 0xC3010203 = .orni 1 2 3 ∧
    decode 0xC4010203 = .nor 1 2 3 ∧
    decode 0xC5010203 = .nori 1 2 3 ∧
    decode 0xC6010203 = .xor 1 2 3 ∧
    decode 0xC7010203 = .xori 1 2 3 := by
  decide

theorem test_decode_C8_to_CF :
    decode 0xC8010203 = .and 1 2 3 ∧
    decode 0xC9010203 = .andi 1 2 3 ∧
    decode 0xCA010203 = .andn 1 2 3 ∧
    decode 0xCB010203 = .andni 1 2 3 ∧
    decode 0xCC010203 = .nand 1 2 3 ∧
    decode 0xCD010203 = .nandi 1 2 3 ∧
    decode 0xCE010203 = .nxor 1 2 3 ∧
    decode 0xCF010203 = .nxori 1 2 3 := by
  decide

theorem test_decode_D0_to_D7 :
    decode 0xD0010203 = .bdif 1 2 3 ∧
    decode 0xD1010203 = .bdifi 1 2 3 ∧
    decode 0xD2010203 = .wdif 1 2 3 ∧
    decode 0xD3010203 = .wdifi 1 2 3 ∧
    decode 0xD4010203 = .tdif 1 2 3 ∧
    decode 0xD5010203 = .tdifi 1 2 3 ∧
    decode 0xD6010203 = .odif 1 2 3 ∧
    decode 0xD7010203 = .odifi 1 2 3 := by
  decide

theorem test_decode_D8_to_DF :
    decode 0xD8010203 = .mux 1 2 3 ∧
    decode 0xD9010203 = .muxi 1 2 3 ∧
    decode 0xDA010203 = .sadd 1 2 3 ∧
    decode 0xDB010203 = .saddi 1 2 3 ∧
    decode 0xDC010203 = .mor 1 2 3 ∧
    decode 0xDD010203 = .mori 1 2 3 ∧
    decode 0xDE010203 = .mxor 1 2 3 ∧
    decode 0xDF010203 = .mxori 1 2 3 := by
  decide

theorem test_decode_E0_to_E7 :
    decode 0xE0010203 = .seth 1 0x0203 ∧
    decode 0xE1010203 = .setmh 1 0x0203 ∧
    decode 0xE2010203 = .setml 1 0x0203 ∧
    decode 0xE3010203 = .setl 1 0x0203 ∧
    decode 0xE4010203 = .inch 1 0x0203 ∧
    decode 0xE5010203 = .incmh 1 0x0203 ∧
    decode 0xE6010203 = .incml 1 0x0203 ∧
    decode 0xE7010203 = .incl 1 0x0203 := by
  decide

theorem test_decode_E8_to_EF :
    decode 0xE8010203 = .orh 1 0x0203 ∧
    decode 0xE9010203 = .ormh 1 0x0203 ∧
    decode 0xEA010203 = .orml 1 0x0203 ∧
    decode 0xEB010203 = .orl 1 0x0203 ∧
    decode 0xEC010203 = .andnh 1 0x0203 ∧
    decode 0xED010203 = .andnmh 1 0x0203 ∧
    decode 0xEE010203 = .andnml 1 0x0203 ∧
    decode 0xEF010203 = .andnl 1 0x0203 := by
  decide

theorem test_decode_F0_to_F7 :
    decode 0xF0010203 = .jmp ∧
    decode 0xF1010203 = .jmpb ∧
    decode 0xF2010203 = .pushj ∧
    decode 0xF3010203 = .pushjb ∧
    decode 0xF4010203 = .geta ∧
    decode 0xF5010203 = .getab ∧
    decode 0xF6010203 = .put ∧
    decode 0xF7010203 = .puti := by
  decide

theorem test_decode_F8_to_FF :
    decode 0xF8010203 = .pop ∧
    decode 0xF9010203 = .resume ∧
    decode 0xFA010203 = .save ∧
    decode 0xFB010203 = .unsave ∧
    decode 0xFC010203 = .sync ∧
    decode 0xFD010203 = .swym ∧
    decode 0xFE010203 = .get ∧
    decode 0xFF010203 = .trip := by
  decide

/-- All-zero and all-one words, and fields at their ends (96_test_vectors_by_family.md, Part B14). -/
theorem test_decode_boundaries :
    decode 0x00000000 = .trap ∧ decode 0xFFFFFFFF = .trip ∧ decode 0x20FFFFFF = .add 255 255 255 ∧
    decode 0xE3000000 = .setl 0 0 ∧ decode 0x5FFFFFFF = .pbevb 255 0xFFFF := by
  decide

/-- The first byte of memory is OP; a list of any other length is rejected by name. -/
theorem test_decode_bytes :
    decodeBytes [0xAD, 0x03, 0x02, 0x11] = .ok (.stoi 3 2 17) ∧
    (decodeBytes [0xAD, 0x03, 0x02]).isOk = false := ⟨rfl, rfl⟩

/-- A row of the opcode table read as the host reads it. -/
theorem test_decode_table_word :
    decodeTableWord 32 0x4A0303E8 = some (.bnz 3 1000) := by decide

/-! ## Executing

One step each, from 96_test_vectors_by_family.md, Part B. Under `record`, so that `ovf` shows whether
the exception occurred. -/

theorem test_step_add : registerAfter (exec (decode 0x20010203)
    (machine [(2, 0x8000000000000000), (3, 0xFFFFFFFFFFFFFFFF)] [] .record)) 1 =
    some (0x7FFFFFFFFFFFFFFF, true) := by
  decide

theorem test_step_addi : registerAfter (exec (decode 0x210102FF)
    (machine [(2, 0x7FFFFFFFFFFFFF01)] [] .record)) 1 =
    some (0x8000000000000000, true) := by
  decide

theorem test_step_addu : registerAfter (exec (decode 0x22010203)
    (machine [(2, 0xFFFFFFFFFFFFFFFF), (3, 0x1)] [] .record)) 1 =
    some (0x0, false) := by
  decide

theorem test_step_addui : registerAfter (exec (decode 0x230102FF)
    (machine [(2, 0xFFFFFFFFFFFFFFFF)] [] .record)) 1 =
    some (0xFE, false) := by
  decide

theorem test_step_sub : registerAfter (exec (decode 0x24010203)
    (machine [(2, 0x8000000000000000), (3, 0x1)] [] .record)) 1 =
    some (0x7FFFFFFFFFFFFFFF, true) := by
  decide

theorem test_step_subi : registerAfter (exec (decode 0x25010201)
    (machine [(2, 0x8000000000000000)] [] .record)) 1 =
    some (0x7FFFFFFFFFFFFFFF, true) := by
  decide

theorem test_step_subu : registerAfter (exec (decode 0x26010203)
    (machine [(2, 0x0), (3, 0x1)] [] .record)) 1 =
    some (0xFFFFFFFFFFFFFFFF, false) := by
  decide

theorem test_step_subui : registerAfter (exec (decode 0x27010201)
    (machine [(2, 0x8000000000000000)] [] .record)) 1 =
    some (0x7FFFFFFFFFFFFFFF, false) := by
  decide

theorem test_step_addu2 : registerAfter (exec (decode 0x28010203)
    (machine [(2, 0x8000000000000001), (3, 0x5)] [] .record)) 1 =
    some (0x7, false) := by
  decide

theorem test_step_addu2i : registerAfter (exec (decode 0x29010201)
    (machine [(2, 0x7)] [] .record)) 1 =
    some (0xF, false) := by
  decide

theorem test_step_addu4 : registerAfter (exec (decode 0x2A010203)
    (machine [(2, 0x4000000000000000), (3, 0x3)] [] .record)) 1 =
    some (0x3, false) := by
  decide

theorem test_step_addu4i : registerAfter (exec (decode 0x2B010201)
    (machine [(2, 0x3)] [] .record)) 1 =
    some (0xD, false) := by
  decide

theorem test_step_addu8 : registerAfter (exec (decode 0x2C010203)
    (machine [(2, 0x3), (3, 0x1000)] [] .record)) 1 =
    some (0x1018, false) := by
  decide

theorem test_step_addu8i : registerAfter (exec (decode 0x2D0102FF)
    (machine [(2, 0x2000000000000001)] [] .record)) 1 =
    some (0x107, false) := by
  decide

theorem test_step_addu16 : registerAfter (exec (decode 0x2E010203)
    (machine [(2, 0xFFFFFFFFFFFFFFFF), (3, 0xFFFFFFFFFFFFFFFF)] [] .record)) 1 =
    some (0xFFFFFFFFFFFFFFEF, false) := by
  decide

theorem test_step_addu16i : registerAfter (exec (decode 0x2F010200)
    (machine [(2, 0x1000000000000001)] [] .record)) 1 =
    some (0x10, false) := by
  decide

theorem test_step_cmp : registerAfter (exec (decode 0x30010203)
    (machine [(2, 0xFFFFFFFFFFFFFFFF), (3, 0x1)] [] .record)) 1 =
    some (0xFFFFFFFFFFFFFFFF, false) := by
  decide

theorem test_step_cmpi : registerAfter (exec (decode 0x31010200)
    (machine [(2, 0xFFFFFFFFFFFFFFFF)] [] .record)) 1 =
    some (0xFFFFFFFFFFFFFFFF, false) := by
  decide

theorem test_step_cmpu : registerAfter (exec (decode 0x32010203)
    (machine [(2, 0x7FFFFFFFFFFFFFFF), (3, 0x8000000000000000)] [] .record)) 1 =
    some (0xFFFFFFFFFFFFFFFF, false) := by
  decide

theorem test_step_cmpui : registerAfter (exec (decode 0x33010201)
    (machine [(2, 0x0)] [] .record)) 1 =
    some (0xFFFFFFFFFFFFFFFF, false) := by
  decide

theorem test_step_neg : registerAfter (exec (decode 0x34010003)
    (machine [(3, 0x8000000000000000)] [] .record)) 1 =
    some (0x8000000000000000, true) := by
  decide

theorem test_step_negi : registerAfter (exec (decode 0x35010102)
    (machine [] [] .record)) 1 =
    some (0xFFFFFFFFFFFFFFFF, false) := by
  decide

theorem test_step_negu : registerAfter (exec (decode 0x36010003)
    (machine [(3, 0x8000000000000000)] [] .record)) 1 =
    some (0x8000000000000000, false) := by
  decide

theorem test_step_negui : registerAfter (exec (decode 0x37010102)
    (machine [] [] .record)) 1 =
    some (0xFFFFFFFFFFFFFFFF, false) := by
  decide

theorem test_step_sl : registerAfter (exec (decode 0x38010203)
    (machine [(2, 0xFFFFFFFFFFFFFFFF), (3, 0x10000000000)] [] .record)) 1 =
    some (0x0, true) := by
  decide

theorem test_step_sli : registerAfter (exec (decode 0x3901023F)
    (machine [(2, 0x1)] [] .record)) 1 =
    some (0x8000000000000000, true) := by
  decide

theorem test_step_slu : registerAfter (exec (decode 0x3A010203)
    (machine [(2, 0xFFFFFFFFFFFFFFFF), (3, 0xFFFFFFFFFFFFFFFF)] [] .record)) 1 =
    some (0x0, false) := by
  decide

theorem test_step_slui : registerAfter (exec (decode 0x3B01023F)
    (machine [(2, 0xFFFFFFFFFFFFFFFF)] [] .record)) 1 =
    some (0x8000000000000000, false) := by
  decide

theorem test_step_sr : registerAfter (exec (decode 0x3C010203)
    (machine [(2, 0xFFFFFFFFFFFFFFFF), (3, 0xFFFFFFFFFFFFFFFF)] [] .record)) 1 =
    some (0xFFFFFFFFFFFFFFFF, false) := by
  decide

theorem test_step_sri : registerAfter (exec (decode 0x3D010204)
    (machine [(2, 0x8000000000000000)] [] .record)) 1 =
    some (0xF800000000000000, false) := by
  decide

theorem test_step_sru : registerAfter (exec (decode 0x3E010203)
    (machine [(2, 0xFFFFFFFFFFFFFFFF), (3, 0x40)] [] .record)) 1 =
    some (0x0, false) := by
  decide

theorem test_step_srui : registerAfter (exec (decode 0x3F010204)
    (machine [(2, 0x8000000000000000)] [] .record)) 1 =
    some (0x800000000000000, false) := by
  decide

theorem test_step_bn : pcAfter (exec (decode 0x40010010)
    { machine [(1, 0x8000000000000000)] [] .record with pc := 0x1000 }) =
    some 0x1040 := by
  decide

theorem test_step_bnb : pcAfter (exec (decode 0x4101FFF0)
    { machine [(1, 0x8000000000000000)] [] .record with pc := 0x1000 }) =
    some 0xFC0 := by
  decide

theorem test_step_bz : pcAfter (exec (decode 0x42010010)
    { machine [(1, 0x0)] [] .record with pc := 0x1000 }) =
    some 0x1040 := by
  decide

theorem test_step_bzb : pcAfter (exec (decode 0x4301FFF0)
    { machine [(1, 0x0)] [] .record with pc := 0x1000 }) =
    some 0xFC0 := by
  decide

theorem test_step_bp : pcAfter (exec (decode 0x44010010)
    { machine [(1, 0x1)] [] .record with pc := 0x1000 }) =
    some 0x1040 := by
  decide

theorem test_step_bpb : pcAfter (exec (decode 0x4501FFF0)
    { machine [(1, 0x1)] [] .record with pc := 0x1000 }) =
    some 0xFC0 := by
  decide

theorem test_step_bod : pcAfter (exec (decode 0x46010010)
    { machine [(1, 0x1)] [] .record with pc := 0x1000 }) =
    some 0x1040 := by
  decide

theorem test_step_bodb : pcAfter (exec (decode 0x4701FFF0)
    { machine [(1, 0x1)] [] .record with pc := 0x1000 }) =
    some 0xFC0 := by
  decide

theorem test_step_bnn : pcAfter (exec (decode 0x48010010)
    { machine [(1, 0x0)] [] .record with pc := 0x1000 }) =
    some 0x1040 := by
  decide

theorem test_step_bnnb : pcAfter (exec (decode 0x4901FFF0)
    { machine [(1, 0x0)] [] .record with pc := 0x1000 }) =
    some 0xFC0 := by
  decide

theorem test_step_bnz : pcAfter (exec (decode 0x4A010010)
    { machine [(1, 0x8000000000000000)] [] .record with pc := 0x1000 }) =
    some 0x1040 := by
  decide

theorem test_step_bnzb : pcAfter (exec (decode 0x4B01FFF0)
    { machine [(1, 0x8000000000000000)] [] .record with pc := 0x1000 }) =
    some 0xFC0 := by
  decide

theorem test_step_bnp : pcAfter (exec (decode 0x4C010010)
    { machine [(1, 0x8000000000000000)] [] .record with pc := 0x1000 }) =
    some 0x1040 := by
  decide

theorem test_step_bnpb : pcAfter (exec (decode 0x4D01FFF0)
    { machine [(1, 0x8000000000000000)] [] .record with pc := 0x1000 }) =
    some 0xFC0 := by
  decide

theorem test_step_bev : pcAfter (exec (decode 0x4E010010)
    { machine [(1, 0x8000000000000000)] [] .record with pc := 0x1000 }) =
    some 0x1040 := by
  decide

theorem test_step_bevb : pcAfter (exec (decode 0x4F01FFF0)
    { machine [(1, 0x8000000000000000)] [] .record with pc := 0x1000 }) =
    some 0xFC0 := by
  decide

theorem test_step_pbn : pcAfter (exec (decode 0x50010010)
    { machine [(1, 0x8000000000000000)] [] .record with pc := 0x1000 }) =
    some 0x1040 := by
  decide

theorem test_step_pbnb : pcAfter (exec (decode 0x5101FFF0)
    { machine [(1, 0x8000000000000000)] [] .record with pc := 0x1000 }) =
    some 0xFC0 := by
  decide

theorem test_step_pbz : pcAfter (exec (decode 0x52010010)
    { machine [(1, 0x0)] [] .record with pc := 0x1000 }) =
    some 0x1040 := by
  decide

theorem test_step_pbzb : pcAfter (exec (decode 0x5301FFF0)
    { machine [(1, 0x0)] [] .record with pc := 0x1000 }) =
    some 0xFC0 := by
  decide

theorem test_step_pbp : pcAfter (exec (decode 0x54010010)
    { machine [(1, 0x1)] [] .record with pc := 0x1000 }) =
    some 0x1040 := by
  decide

theorem test_step_pbpb : pcAfter (exec (decode 0x5501FFF0)
    { machine [(1, 0x1)] [] .record with pc := 0x1000 }) =
    some 0xFC0 := by
  decide

theorem test_step_pbod : pcAfter (exec (decode 0x56010010)
    { machine [(1, 0x1)] [] .record with pc := 0x1000 }) =
    some 0x1040 := by
  decide

theorem test_step_pbodb : pcAfter (exec (decode 0x5701FFF0)
    { machine [(1, 0x1)] [] .record with pc := 0x1000 }) =
    some 0xFC0 := by
  decide

theorem test_step_pbnn : pcAfter (exec (decode 0x58010010)
    { machine [(1, 0x0)] [] .record with pc := 0x1000 }) =
    some 0x1040 := by
  decide

theorem test_step_pbnnb : pcAfter (exec (decode 0x5901FFF0)
    { machine [(1, 0x0)] [] .record with pc := 0x1000 }) =
    some 0xFC0 := by
  decide

theorem test_step_pbnz : pcAfter (exec (decode 0x5A010010)
    { machine [(1, 0x8000000000000000)] [] .record with pc := 0x1000 }) =
    some 0x1040 := by
  decide

theorem test_step_pbnzb : pcAfter (exec (decode 0x5B01FFF0)
    { machine [(1, 0x8000000000000000)] [] .record with pc := 0x1000 }) =
    some 0xFC0 := by
  decide

theorem test_step_pbnp : pcAfter (exec (decode 0x5C010010)
    { machine [(1, 0x8000000000000000)] [] .record with pc := 0x1000 }) =
    some 0x1040 := by
  decide

theorem test_step_pbnpb : pcAfter (exec (decode 0x5D01FFF0)
    { machine [(1, 0x8000000000000000)] [] .record with pc := 0x1000 }) =
    some 0xFC0 := by
  decide

theorem test_step_pbev : pcAfter (exec (decode 0x5E010010)
    { machine [(1, 0x8000000000000000)] [] .record with pc := 0x1000 }) =
    some 0x1040 := by
  decide

theorem test_step_pbevb : pcAfter (exec (decode 0x5F01FFF0)
    { machine [(1, 0x8000000000000000)] [] .record with pc := 0x1000 }) =
    some 0xFC0 := by
  decide

theorem test_step_csn : registerAfter (exec (decode 0x60010203)
    (machine [(1, 0x9), (2, 0x8000000000000000), (3, 0x1234)] [] .record)) 1 =
    some (0x1234, false) := by
  decide

theorem test_step_csni : registerAfter (exec (decode 0x61010205)
    (machine [(1, 0x9), (2, 0x8000000000000000)] [] .record)) 1 =
    some (0x5, false) := by
  decide

theorem test_step_cszi : registerAfter (exec (decode 0x63010205)
    (machine [(1, 0x9), (2, 0x0)] [] .record)) 1 =
    some (0x5, false) := by
  decide

theorem test_step_cspi : registerAfter (exec (decode 0x65010205)
    (machine [(1, 0x9), (2, 0x1)] [] .record)) 1 =
    some (0x5, false) := by
  decide

theorem test_step_csod : registerAfter (exec (decode 0x66010203)
    (machine [(1, 0x9), (2, 0xFFFFFFFFFFFFFFFF), (3, 0xFFFFFFFFFFFFFFFF)] [] .record)) 1 =
    some (0xFFFFFFFFFFFFFFFF, false) := by
  decide

theorem test_step_csodi : registerAfter (exec (decode 0x67010205)
    (machine [(1, 0x9), (2, 0x1)] [] .record)) 1 =
    some (0x5, false) := by
  decide

theorem test_step_csnni : registerAfter (exec (decode 0x69010205)
    (machine [(1, 0x9), (2, 0x0)] [] .record)) 1 =
    some (0x5, false) := by
  decide

theorem test_step_csnzi : registerAfter (exec (decode 0x6B010205)
    (machine [(1, 0x9), (2, 0x8000000000000000)] [] .record)) 1 =
    some (0x5, false) := by
  decide

theorem test_step_csnpi : registerAfter (exec (decode 0x6D010205)
    (machine [(1, 0x9), (2, 0x8000000000000000)] [] .record)) 1 =
    some (0x5, false) := by
  decide

theorem test_step_csev : registerAfter (exec (decode 0x6E010203)
    (machine [(1, 0x9), (2, 0xFFFFFFFFFFFFFFFF), (3, 0x7)] [] .record)) 1 =
    some (0x9, false) := by
  decide

theorem test_step_csevi : registerAfter (exec (decode 0x6F010205)
    (machine [(1, 0x9), (2, 0x8000000000000000)] [] .record)) 1 =
    some (0x5, false) := by
  decide

theorem test_step_zsni : registerAfter (exec (decode 0x71010205)
    (machine [(1, 0x9), (2, 0x8000000000000000)] [] .record)) 1 =
    some (0x5, false) := by
  decide

theorem test_step_zszi : registerAfter (exec (decode 0x73010205)
    (machine [(1, 0x9), (2, 0x0)] [] .record)) 1 =
    some (0x5, false) := by
  decide

theorem test_step_zsp : registerAfter (exec (decode 0x74010203)
    (machine [(1, 0x9), (2, 0x1), (3, 0x1234)] [] .record)) 1 =
    some (0x1234, false) := by
  decide

theorem test_step_zspi : registerAfter (exec (decode 0x75010205)
    (machine [(1, 0x9), (2, 0x1)] [] .record)) 1 =
    some (0x5, false) := by
  decide

theorem test_step_zsodi : registerAfter (exec (decode 0x77010205)
    (machine [(1, 0x9), (2, 0x1)] [] .record)) 1 =
    some (0x5, false) := by
  decide

theorem test_step_zsnni : registerAfter (exec (decode 0x79010205)
    (machine [(1, 0x9), (2, 0x0)] [] .record)) 1 =
    some (0x5, false) := by
  decide

theorem test_step_zsnzi : registerAfter (exec (decode 0x7B010205)
    (machine [(1, 0x9), (2, 0x8000000000000000)] [] .record)) 1 =
    some (0x5, false) := by
  decide

theorem test_step_zsnp : registerAfter (exec (decode 0x7C010203)
    (machine [(1, 0x9), (2, 0x0), (3, 0x8000000000000000)] [] .record)) 1 =
    some (0x8000000000000000, false) := by
  decide

theorem test_step_zsnpi : registerAfter (exec (decode 0x7D010205)
    (machine [(1, 0x9), (2, 0x8000000000000000)] [] .record)) 1 =
    some (0x5, false) := by
  decide

theorem test_step_zsev : registerAfter (exec (decode 0x7E010203)
    (machine [(1, 0x9), (2, 0x2), (3, 0xABC)] [] .record)) 1 =
    some (0xABC, false) := by
  decide

theorem test_step_zsevi : registerAfter (exec (decode 0x7F010205)
    (machine [(1, 0x9), (2, 0x8000000000000000)] [] .record)) 1 =
    some (0x5, false) := by
  decide

theorem test_step_ldb : registerAfter (exec (decode 0x80010203)
    (machine [(2, 0xFFFFFFFFFFFFFFFF), (3, 0x1005)] loadBytes .record)) 1 =
    some (0xFFFFFFFFFFFFFF89, false) := by
  decide

theorem test_step_ldbi : registerAfter (exec (decode 0x81010200)
    (machine [(2, 0x1000)] loadBytes .record)) 1 =
    some (0xFFFFFFFFFFFFFF81, false) := by
  decide

theorem test_step_ldbui : registerAfter (exec (decode 0x83010200)
    (machine [(2, 0x1000)] loadBytes .record)) 1 =
    some (0x81, false) := by
  decide

theorem test_step_ldw : registerAfter (exec (decode 0x84010203)
    (machine [(2, 0x800), (3, 0x806)] loadBytes .record)) 1 =
    some (0xFFFFFFFFFFFFCDEF, false) := by
  decide

theorem test_step_ldwi : registerAfter (exec (decode 0x85010201)
    (machine [(2, 0x1000)] loadBytes .record)) 1 =
    some (0xFFFFFFFFFFFF8123, false) := by
  decide

theorem test_step_ldwui : registerAfter (exec (decode 0x87010201)
    (machine [(2, 0x1000)] loadBytes .record)) 1 =
    some (0x8123, false) := by
  decide

theorem test_step_ldti : registerAfter (exec (decode 0x89010207)
    (machine [(2, 0x1000)] loadBytes .record)) 1 =
    some (0xFFFFFFFF89ABCDEF, false) := by
  decide

theorem test_step_ldtui : registerAfter (exec (decode 0x8B010205)
    (machine [(2, 0x1000)] loadBytes .record)) 1 =
    some (0x89ABCDEF, false) := by
  decide

theorem test_step_ldo : registerAfter (exec (decode 0x8C010203)
    (machine [(2, 0x1010), (3, 0xFFFFFFFFFFFFFFF5)] loadBytes .record)) 1 =
    some (0x8123456789ABCDEF, false) := by
  decide

theorem test_step_ldoi : registerAfter (exec (decode 0x8D010205)
    (machine [(2, 0x1000)] loadBytes .record)) 1 =
    some (0x8123456789ABCDEF, false) := by
  decide

theorem test_step_ldoui : registerAfter (exec (decode 0x8F010207)
    (machine [(2, 0x1000)] loadBytes .record)) 1 =
    some (0x8123456789ABCDEF, false) := by
  decide

theorem test_step_ldhti : registerAfter (exec (decode 0x93010202)
    (machine [(2, 0x1000)] loadBytes .record)) 1 =
    some (0x8123456700000000, false) := by
  decide

theorem test_step_stbi : bytesAfter (exec (decode 0xA1010203)
    (machine [(1, 0xFFFFFFFFFFFFFF7F), (2, 0x2000)] zeroBytes .record))
    [0x2003] =
    some ([some 0x7F], true) := by
  decide

theorem test_step_stbu : bytesAfter (exec (decode 0xA2010203)
    (machine [(1, 0xAB), (2, 0xFFFFFFFFFFFFFFFF), (3, 0x2002)] zeroBytes .record))
    [0x2001] =
    some ([some 0xAB], false) := by
  decide

theorem test_step_stbui : bytesAfter (exec (decode 0xA3010203)
    (machine [(1, 0x123456789ABCDEF), (2, 0x2000)] zeroBytes .record))
    [0x2003] =
    some ([some 0xEF], false) := by
  decide

theorem test_step_stwi : bytesAfter (exec (decode 0xA5010203)
    (machine [(1, 0xFFFFFFFFFFFF7FFF), (2, 0x2000)] zeroBytes .record))
    [0x2002, 0x2003] =
    some ([some 0x7F, some 0xFF], true) := by
  decide

theorem test_step_stwui : bytesAfter (exec (decode 0xA7010205)
    (machine [(1, 0x123456789ABCDEF), (2, 0x2000)] zeroBytes .record))
    [0x2004, 0x2005] =
    some ([some 0xCD, some 0xEF], false) := by
  decide

theorem test_step_stti : bytesAfter (exec (decode 0xA9010206)
    (machine [(1, 0xFFFFFFFF7FFFFFFF), (2, 0x2000)] zeroBytes .record))
    [0x2004, 0x2005, 0x2006, 0x2007] =
    some ([some 0x7F, some 0xFF, some 0xFF, some 0xFF], true) := by
  decide

theorem test_step_sttui : bytesAfter (exec (decode 0xAB010201)
    (machine [(1, 0x123456789ABCDEF), (2, 0x2000)] zeroBytes .record))
    [0x2000, 0x2001, 0x2002, 0x2003] =
    some ([some 0x89, some 0xAB, some 0xCD, some 0xEF], false) := by
  decide

theorem test_step_sto : bytesAfter (exec (decode 0xAC010203)
    (machine [(1, 0x1122334455667788), (2, 0x1FF8), (3, 0xF)] zeroBytes .record))
    [0x2000, 0x2001, 0x2002, 0x2003, 0x2004, 0x2005, 0x2006, 0x2007] =
    some ([some 0x11, some 0x22, some 0x33, some 0x44, some 0x55, some 0x66, some 0x77, some 0x88], false) := by
  decide

theorem test_step_stoi : bytesAfter (exec (decode 0xAD010207)
    (machine [(1, 0x8000000000000000), (2, 0x2000)] zeroBytes .record))
    [0x2000, 0x2001, 0x2002, 0x2003, 0x2004, 0x2005, 0x2006, 0x2007] =
    some ([some 0x80, some 0x00, some 0x00, some 0x00, some 0x00, some 0x00, some 0x00, some 0x00], false) := by
  decide

theorem test_step_stoui : bytesAfter (exec (decode 0xAF010200)
    (machine [(1, 0x8000000000000000), (2, 0x2000)] zeroBytes .record))
    [0x2000, 0x2001, 0x2002, 0x2003, 0x2004, 0x2005, 0x2006, 0x2007] =
    some ([some 0x80, some 0x00, some 0x00, some 0x00, some 0x00, some 0x00, some 0x00, some 0x00], false) := by
  decide

theorem test_step_sthti : bytesAfter (exec (decode 0xB3010205)
    (machine [(1, 0x123456789ABCDEF), (2, 0x2000)] zeroBytes .record))
    [0x2004, 0x2005, 0x2006, 0x2007] =
    some ([some 0x01, some 0x23, some 0x45, some 0x67], false) := by
  decide

theorem test_step_stco : bytesAfter (exec (decode 0xB42A0203)
    (machine [(2, 0x2000), (3, 0xA)] zeroBytes .record))
    [0x2008, 0x2009, 0x200A, 0x200B, 0x200C, 0x200D, 0x200E, 0x200F] =
    some ([some 0x00, some 0x00, some 0x00, some 0x00, some 0x00, some 0x00, some 0x00, some 0x2A], false) := by
  decide

theorem test_step_stcoi : bytesAfter (exec (decode 0xB5FF0209)
    (machine [(2, 0x2000)] zeroBytes .record))
    [0x2008, 0x2009, 0x200A, 0x200B, 0x200C, 0x200D, 0x200E, 0x200F] =
    some ([some 0x00, some 0x00, some 0x00, some 0x00, some 0x00, some 0x00, some 0x00, some 0xFF], false) := by
  decide

theorem test_step_or : registerAfter (exec (decode 0xC0010203)
    (machine [(2, 0x123456789ABCDEF), (3, 0xFF00FF0F0F3333)] [] .record)) 1 =
    some (0x1FF45FF8FAFFFFF, false) := by
  decide

theorem test_step_ori : registerAfter (exec (decode 0xC10102F0)
    (machine [(2, 0x123456789ABCDEF), (3, 0xFF00FF0F0F3333)] [] .record)) 1 =
    some (0x123456789ABCDFF, false) := by
  decide

theorem test_step_orn : registerAfter (exec (decode 0xC2010203)
    (machine [(2, 0x123456789ABCDEF), (3, 0xFF00FF0F0F3333)] [] .record)) 1 =
    some (0xFF23FF67F9FBCDEF, false) := by
  decide

theorem test_step_orni : registerAfter (exec (decode 0xC30102F0)
    (machine [(2, 0x123456789ABCDEF), (3, 0xFF00FF0F0F3333)] [] .record)) 1 =
    some (0xFFFFFFFFFFFFFFEF, false) := by
  decide

theorem test_step_nor : registerAfter (exec (decode 0xC4010203)
    (machine [(2, 0x123456789ABCDEF), (3, 0xFF00FF0F0F3333)] [] .record)) 1 =
    some (0xFE00BA0070500000, false) := by
  decide

theorem test_step_nori : registerAfter (exec (decode 0xC50102F0)
    (machine [(2, 0x123456789ABCDEF), (3, 0xFF00FF0F0F3333)] [] .record)) 1 =
    some (0xFEDCBA9876543200, false) := by
  decide

theorem test_step_xor : registerAfter (exec (decode 0xC6010203)
    (machine [(2, 0x123456789ABCDEF), (3, 0xFF00FF0F0F3333)] [] .record)) 1 =
    some (0x1DC459886A4FEDC, false) := by
  decide

theorem test_step_xori : registerAfter (exec (decode 0xC70102F0)
    (machine [(2, 0x123456789ABCDEF), (3, 0xFF00FF0F0F3333)] [] .record)) 1 =
    some (0x123456789ABCD1F, false) := by
  decide

theorem test_step_and : registerAfter (exec (decode 0xC8010203)
    (machine [(2, 0x123456789ABCDEF), (3, 0xFF00FF0F0F3333)] [] .record)) 1 =
    some (0x230067090B0123, false) := by
  decide

theorem test_step_andi : registerAfter (exec (decode 0xC90102F0)
    (machine [(2, 0x123456789ABCDEF), (3, 0xFF00FF0F0F3333)] [] .record)) 1 =
    some (0xE0, false) := by
  decide

theorem test_step_andn : registerAfter (exec (decode 0xCA010203)
    (machine [(2, 0x123456789ABCDEF), (3, 0xFF00FF0F0F3333)] [] .record)) 1 =
    some (0x100450080A0CCCC, false) := by
  decide

theorem test_step_andni : registerAfter (exec (decode 0xCB0102F0)
    (machine [(2, 0x123456789ABCDEF), (3, 0xFF00FF0F0F3333)] [] .record)) 1 =
    some (0x123456789ABCD0F, false) := by
  decide

theorem test_step_nand : registerAfter (exec (decode 0xCC010203)
    (machine [(2, 0x123456789ABCDEF), (3, 0xFF00FF0F0F3333)] [] .record)) 1 =
    some (0xFFDCFF98F6F4FEDC, false) := by
  decide

theorem test_step_nandi : registerAfter (exec (decode 0xCD0102F0)
    (machine [(2, 0x123456789ABCDEF), (3, 0xFF00FF0F0F3333)] [] .record)) 1 =
    some (0xFFFFFFFFFFFFFF1F, false) := by
  decide

theorem test_step_nxor : registerAfter (exec (decode 0xCE010203)
    (machine [(2, 0x123456789ABCDEF), (3, 0xFF00FF0F0F3333)] [] .record)) 1 =
    some (0xFE23BA67795B0123, false) := by
  decide

theorem test_step_nxori : registerAfter (exec (decode 0xCF0102F0)
    (machine [(2, 0x123456789ABCDEF), (3, 0xFF00FF0F0F3333)] [] .record)) 1 =
    some (0xFEDCBA98765432E0, false) := by
  decide

theorem test_step_bdif : registerAfter (exec (decode 0xD0010203)
    (machine [(2, 0x110FF8005007F20), (3, 0x2100180FF01807F)] [] .record)) 1 =
    some (0xFE0000000000, false) := by
  decide

theorem test_step_bdifi : registerAfter (exec (decode 0xD1010230)
    (machine [(2, 0x110FF8005007F20)] [] .record)) 1 =
    some (0x110FF8005007F00, false) := by
  decide

theorem test_step_wdif : registerAfter (exec (decode 0xD2010203)
    (machine [(2, 0x110FF8005007F20), (3, 0x2100180FF01807F)] [] .record)) 1 =
    some (0xFE0000000000, false) := by
  decide

theorem test_step_wdifi : registerAfter (exec (decode 0xD30102FF)
    (machine [(2, 0x110FF8005007F20)] [] .record)) 1 =
    some (0x110FF8005007E21, false) := by
  decide

theorem test_step_tdif : registerAfter (exec (decode 0xD4010203)
    (machine [(2, 0x2100180FF01807F), (3, 0x110FF8005007F20)] [] .record)) 1 =
    some (0xFF0200FA01015F, false) := by
  decide

theorem test_step_tdifi : registerAfter (exec (decode 0xD50102FF)
    (machine [(2, 0x110FF8005007F20)] [] .record)) 1 =
    some (0x110FF8005007E21, false) := by
  decide

theorem test_step_odif : registerAfter (exec (decode 0xD6010203)
    (machine [(2, 0xFFFFFFFFFFFFFFFF), (3, 0x1)] [] .record)) 1 =
    some (0xFFFFFFFFFFFFFFFE, false) := by
  decide

theorem test_step_odifi : registerAfter (exec (decode 0xD70102FF)
    (machine [(2, 0x1FF)] [] .record)) 1 =
    some (0x100, false) := by
  decide

theorem test_step_mux : registerAfter (exec (decode 0xD8010203)
    { machine [(2, 0x123456789ABCDEF), (3, 0xFF00FF0F0F3333)] [] .record with rM := 0xFFFFFFFF00000000 }) 1 =
    some (0x12345670F0F3333, false) := by
  decide

theorem test_step_muxi : registerAfter (exec (decode 0xD90102FF)
    { machine [(2, 0x123456789ABCDEF), (3, 0xFF00FF0F0F3333)] [] .record with rM := 0xFFFFFFFFFFFFFF0F }) 1 =
    some (0x123456789ABCDFF, false) := by
  decide

theorem test_step_sadd : registerAfter (exec (decode 0xDA010203)
    (machine [(2, 0xFFFFFFFFFFFFFFFF), (3, 0x0)] [] .record)) 1 =
    some (0x40, false) := by
  decide

theorem test_step_saddi : registerAfter (exec (decode 0xDB0102FF)
    (machine [(2, 0xFFFFFFFFFFFFFFFF)] [] .record)) 1 =
    some (0x38, false) := by
  decide

theorem test_step_mor : registerAfter (exec (decode 0xDC010203)
    (machine [(2, 0x123456789ABCDEF), (3, 0x8040201008040201)] [] .record)) 1 =
    some (0x123456789ABCDEF, false) := by
  decide

theorem test_step_mori : registerAfter (exec (decode 0xDD010201)
    (machine [(2, 0x123456789ABCDEF)] [] .record)) 1 =
    some (0xEF, false) := by
  decide

theorem test_step_mxor : registerAfter (exec (decode 0xDE010203)
    (machine [(2, 0x123456789ABCDEF), (3, 0x8040201008040201)] [] .record)) 1 =
    some (0x123456789ABCDEF, false) := by
  decide

theorem test_step_mxori : registerAfter (exec (decode 0xDF010201)
    (machine [(2, 0x123456789ABCDEF)] [] .record)) 1 =
    some (0xEF, false) := by
  decide

theorem test_step_seth : registerAfter (exec (decode 0xE001F00F)
    (machine [(1, 0x123456789ABCDEF)] [] .record)) 1 =
    some (0xF00F000000000000, false) := by
  decide

theorem test_step_setmh : registerAfter (exec (decode 0xE101F00F)
    (machine [(1, 0x123456789ABCDEF)] [] .record)) 1 =
    some (0xF00F00000000, false) := by
  decide

theorem test_step_setml : registerAfter (exec (decode 0xE201F00F)
    (machine [(1, 0x123456789ABCDEF)] [] .record)) 1 =
    some (0xF00F0000, false) := by
  decide

theorem test_step_setl : registerAfter (exec (decode 0xE301F00F)
    (machine [(1, 0x123456789ABCDEF)] [] .record)) 1 =
    some (0xF00F, false) := by
  decide

theorem test_step_inch : registerAfter (exec (decode 0xE401F00F)
    (machine [(1, 0x123456789ABCDEF)] [] .record)) 1 =
    some (0xF132456789ABCDEF, false) := by
  decide

theorem test_step_incmh : registerAfter (exec (decode 0xE501F00F)
    (machine [(1, 0x123456789ABCDEF)] [] .record)) 1 =
    some (0x124357689ABCDEF, false) := by
  decide

theorem test_step_incml : registerAfter (exec (decode 0xE601F00F)
    (machine [(1, 0x123456789ABCDEF)] [] .record)) 1 =
    some (0x123456879BACDEF, false) := by
  decide

theorem test_step_incl : registerAfter (exec (decode 0xE701FFFF)
    (machine [(1, 0xFFFFFFFFFFFFFFFF)] [] .record)) 1 =
    some (0xFFFE, false) := by
  decide

theorem test_step_orh : registerAfter (exec (decode 0xE801F00F)
    (machine [(1, 0x123456789ABCDEF)] [] .record)) 1 =
    some (0xF12F456789ABCDEF, false) := by
  decide

theorem test_step_ormh : registerAfter (exec (decode 0xE901F00F)
    (machine [(1, 0x123456789ABCDEF)] [] .record)) 1 =
    some (0x123F56F89ABCDEF, false) := by
  decide

theorem test_step_orml : registerAfter (exec (decode 0xEA01F00F)
    (machine [(1, 0x123456789ABCDEF)] [] .record)) 1 =
    some (0x1234567F9AFCDEF, false) := by
  decide

theorem test_step_orl : registerAfter (exec (decode 0xEB01F00F)
    (machine [(1, 0x123456789ABCDEF)] [] .record)) 1 =
    some (0x123456789ABFDEF, false) := by
  decide

theorem test_step_andnh : registerAfter (exec (decode 0xEC018000)
    (machine [(1, 0xFFFFFFFFFFFFFFFF)] [] .record)) 1 =
    some (0x7FFFFFFFFFFFFFFF, false) := by
  decide

theorem test_step_andnmh : registerAfter (exec (decode 0xED01F00F)
    (machine [(1, 0x123456789ABCDEF)] [] .record)) 1 =
    some (0x123056089ABCDEF, false) := by
  decide

theorem test_step_andnml : registerAfter (exec (decode 0xEE01F00F)
    (machine [(1, 0x123456789ABCDEF)] [] .record)) 1 =
    some (0x123456709A0CDEF, false) := by
  decide

theorem test_step_andnl : registerAfter (exec (decode 0xEF01F00F)
    (machine [(1, 0x123456789ABCDEF)] [] .record)) 1 =
    some (0x123456789AB0DE0, false) := by
  decide

/-! ## Stops

The faults and refusals of 60_exceptions.md R265 and R276, each on one step, and the order of its
checks. -/

/-- A state whose `MAPPED` is the bytes #2000 to #2007 and the text. -/
def narrow (r : OverflowResponse) : State :=
  State.ofLaunch
    { Launch.standard with
      initReg := [(1, 0x80), (2, 0x2000)], initMem := zeroBytes, text := [(0x2004, 0x20010203)],
      mapped := [⟨0x2000, 0x2007⟩], overflowResponse := r }

theorem test_load_outside_mapped :
    exec (.ldoi 1 2 8) (narrow .fault) = .fault (.outsideMapped 0x2008 8) := rfl

theorem test_load_of_unwritten_byte :
    exec (.ldoi 1 2 8) (machine [(2, 0x1000)] loadBytes .fault) = .fault (.unwrittenByte 0x1008) :=
  rfl

/-- The store is outside `MAPPED` before it is into `TEXT`, and neither reports overflow. -/
theorem test_store_stops :
    exec (.stbi 1 2 8) (narrow .fault) = .fault (.outsideMapped 0x2008 1) ∧
    exec (.stwi 1 2 7) (narrow .fault) = .refused (.storeIntoText 0x2006 2) ∧
    exec (.stoi 1 2 0) (narrow .record) = .refused (.storeIntoText 0x2000 8) :=
  ⟨rfl, rfl, rfl⟩

/-- Under `fault` the run ends at the instruction, the byte stored. -/
theorem test_overflow_ends_the_run :
    (match exec (.stbi 1 2 0) (narrow .fault) with
      | .fault (.integerOverflow l t) => l == 0x100 && t.pc == 0x100 && t.mem.read 0x2000 == some 0x80
      | _ => false) = true := by
  decide

theorem test_unspecified_code_refused :
    exec (decode 0xFD000000) (narrow .fault) = .refused (.opcodeNotSpecified 0xFD "SWYM") := rfl

/-- The row placed where the step fetches next is the instruction the step runs, from reset. -/
theorem test_step_from_reset :
    step (State.reset.withFetchWord 32 0x230101FF) =
      exec (.addui 1 1 255) (State.reset.withFetchWord 32 0x230101FF) :=
  rfl

theorem test_step_after_reset_alone : step State.reset = .fault (.fetchOutsideText 0x100) := rfl

/-! ## Witnesses

For every statement of Certificates/Slice0/Obligations.lean with hypotheses, states and operands that
meet them, at the ends of their ranges. -/

theorem test_witness_DecodeOfEncode : (Instr.pbevb 255 0xFFFF).wellFormed = true := by decide

theorem test_witness_EncodeOfDecode :
    outOfScope (opByte 0x20FFFFFF) = false ∧ outOfScope (opByte 0xEFFFFFFF) = false := by decide

theorem test_witness_OperationCodeSelectsTheRow : opByte 0x20000000 = opByte 0x20FFFFFF := by decide

/-- A location in `TEXT`, and one reached by a `pc` that is no multiple of 4. -/
theorem test_witness_StepRunsTheDecodedInstruction :
    ∃ s : State, 0x100 = s.pc.toNat - s.pc.toNat % 4 ∧ 0x100 ∉ s.env.exit ∧ 0x100 ∈ s.env.text ∧
      s.mem.read 0x100 = some 0x20 ∧ s.mem.read 0x101 = some 1 ∧ s.mem.read 0x102 = some 2 ∧
      s.mem.read 0x103 = some 3 ∧ decodeBytes [0x20, 1, 2, 3] = .ok (.add 1 2 3) :=
  ⟨{ machine [] [] .fault with pc := 0x103 }, by decide, by decide, by decide, by decide, by decide,
    by decide, by decide, rfl⟩

theorem test_witness_StepOutsideTheProgram :
    (∃ s : State, 0x110 = s.pc.toNat - s.pc.toNat % 4 ∧ 0x110 ∈ s.env.exit) ∧
    ∃ s : State, 0x108 = s.pc.toNat - s.pc.toNat % 4 ∧ 0x108 ∉ s.env.exit ∧ 0x108 ∉ s.env.text :=
  ⟨⟨{ machine [] [] .fault with pc := 0x110 }, by decide, by decide⟩,
    { machine [] [] .fault with pc := 0x108 }, by decide, by decide, by decide⟩

/-- Eight bytes, the k-th of value k, at the low and at the high end of memory. -/
def endBytes : List (Nat × Byte) :=
  ((List.range 8).map fun k => (k, BitVec.ofNat 8 k)) ++
    (List.range 8).map fun k => (2 ^ 64 - 8 + k, BitVec.ofNat 8 k)

/-- The statements SignedLoads, UnsignedLoads and OctaAndHighTetraLoads: each width, at the two ends
of memory. -/
theorem test_witness_loads (size : Size) :
    (Mapped (machine [] endBytes .fault) (accessAddress (effectiveAddress 0 0) size) (sizeBytes size) ∧
      Holds (machine [] endBytes .fault) (accessAddress (effectiveAddress 0 0) size) (sizeBytes size)
        (BitVec.ofNat 8)) ∧
    Mapped (machine [] endBytes .fault)
        (accessAddress (effectiveAddress 0xFFFFFFFFFFFFFFFF 0) size) (sizeBytes size) ∧
      Holds (machine [] endBytes .fault)
        (accessAddress (effectiveAddress 0xFFFFFFFFFFFFFFFF 0) size) (sizeBytes size)
        (fun k => BitVec.ofNat 8 (8 - sizeBytes size + k)) := by
  refine ⟨⟨(mappedRange_iff _ _ _).1 ?_, ?_⟩, (mappedRange_iff _ _ _).1 ?_, ?_⟩ <;> cases size <;>
    first | decide | (unfold Holds; decide)

/-- A range whose last byte is outside `MAPPED`; a range whose first byte holds no value, and one
whose last byte holds none. -/
theorem test_witness_LoadsThatStop :
    (loadedAccess (.ldoi 1 2 8) (narrow .fault) = some (0x2008, 8) ∧ ¬ Mapped (narrow .fault) 0x2008 8) ∧
    (∃ s, loadedAccess (.ldoi 1 2 8) s = some (0x1008, 8) ∧ Mapped s 0x1008 8 ∧
      s.mem.read 0x1008 = none) ∧
    ∃ s, loadedAccess (.ldoi 1 2 0) s = some (0x1000, 8) ∧ Mapped s 0x1000 8 ∧
      s.mem.read 0x1007 = none ∧ ∀ c, 0x1000 ≤ c → c < 0x1007 → s.mem.read c ≠ none := by
  refine ⟨⟨by decide, ?_⟩, ⟨machine [(2, 0x1000)] loadBytes .fault, by decide, ?_, by decide⟩,
    ⟨machine [(2, 0x1000)] loadBytes.dropLast .fault, by decide, ?_, by decide, ?_⟩⟩
  · rw [← mappedRange_iff]; decide
  · rw [← mappedRange_iff]; decide
  · rw [← mappedRange_iff]; decide
  · intro c h1 h2; interval_cases c <;> decide

/-- The statements UncheckedStores and ConstantAndHighTetraStores: each width, just below and just
above the text. -/
theorem test_witness_stores (size : Size) :
    (Mapped (machine [] [] .fault) (accessAddress (effectiveAddress 0xFF 0) size) (sizeBytes size) ∧
      ¬ MeetsText (machine [] [] .fault) (accessAddress (effectiveAddress 0xFF 0) size)
        (sizeBytes size)) ∧
    Mapped (machine [] [] .fault) (accessAddress (effectiveAddress 0x108 0) size) (sizeBytes size) ∧
      ¬ MeetsText (machine [] [] .fault) (accessAddress (effectiveAddress 0x108 0) size)
        (sizeBytes size) := by
  simp only [← mappedRange_iff, ← meetsText_iff]
  cases size <;> decide

/-- The largest value that STB, STW and STT do not signal and the two nearest that they do, in states
of both responses, with the access mapped and clear of the text. -/
theorem test_witness_CheckedStores :
    ∀ size ∈ [Size.byte, .wyde, .tetra], ∀ r ∈ [OverflowResponse.record, .fault],
      (machine [] [] r).env.overflowResponse = r ∧
      (machine [] [] r).env.mappedRange
        (accessAddress (effectiveAddress ((machine [] [] r).reg 2) 0) size) (sizeBytes size) = true ∧
      (machine [] [] r).env.meetsText
        (accessAddress (effectiveAddress ((machine [] [] r).reg 2) 0) size) (sizeBytes size) = false ∧
      ((machine [(1, BitVec.ofInt 64 (2 ^ (8 * sizeBytes size - 1) - 1))] [] r).reg 1).toInt =
        2 ^ (8 * sizeBytes size - 1) - 1 ∧
      2 ^ (8 * sizeBytes size - 1) - 1 <
        ((machine [(1, BitVec.ofInt 64 (2 ^ (8 * sizeBytes size - 1)))] [] r).reg 1).toInt ∧
      ((machine [(1, BitVec.ofInt 64 (-(2 ^ (8 * sizeBytes size - 1)) - 1))] [] r).reg 1).toInt <
        -(2 ^ (8 * sizeBytes size - 1)) := by
  decide

theorem test_witness_StoresThatStop :
    (storedAccess (.stbi 1 2 8) (narrow .fault) = some (0x2008, 1) ∧ ¬ Mapped (narrow .fault) 0x2008 1) ∧
    storedAccess (.stbi 1 2 7) (narrow .fault) = some (0x2007, 1) ∧ Mapped (narrow .fault) 0x2007 1 ∧
      MeetsText (narrow .fault) 0x2007 1 := by
  simp only [← mappedRange_iff, ← meetsText_iff]
  decide

theorem test_witness_MixedWidthReadBack : (2 ^ 64 - 8) % 8 = 0 := by decide

theorem test_witness_StoreThenLoad :
    (∃ s t, exec (.sto 1 2 3) s = .next t ∧ s.reg 1 = 5) ∧
    ∃ s t, exec (.stoi 1 2 255) s = .next t ∧ s.reg 1 = 5 :=
  ⟨⟨machine [(1, 5), (2, 0xFFFFFFFFFFFFFFFF)] [] .fault, _, rfl, by decide⟩,
    machine [(1, 5), (2, 0xFFFFFFFFFFFFFF00)] [] .fault, _, rfl, by decide⟩

/-- The last sum in range, and the first sums and the first difference out of range, under both
responses. -/
theorem test_witness_SignedAddAndSubtract :
    ∀ r ∈ [OverflowResponse.record, .fault],
      (machine [] [] r).env.overflowResponse = r ∧
      ((machine [(2, 0x7FFFFFFFFFFFFFFE), (3, 1)] [] r).reg 2).toInt +
        ((machine [(2, 0x7FFFFFFFFFFFFFFE), (3, 1)] [] r).reg 3).toInt = 2 ^ 63 - 1 ∧
      ((machine [(2, 0x7FFFFFFFFFFFFFFF), (3, 1)] [] r).reg 2).toInt +
        ((machine [(2, 0x7FFFFFFFFFFFFFFF), (3, 1)] [] r).reg 3).toInt = 2 ^ 63 ∧
      ((machine [(2, 0x8000000000000000), (3, 0xFFFFFFFFFFFFFFFF)] [] r).reg 2).toInt +
        ((machine [(2, 0x8000000000000000), (3, 0xFFFFFFFFFFFFFFFF)] [] r).reg 3).toInt =
          -(2 ^ 63) - 1 ∧
      ((machine [(3, 0x8000000000000000)] [] r).reg 2).toInt -
        ((machine [(3, 0x8000000000000000)] [] r).reg 3).toInt = 2 ^ 63 := by
  decide

/-- The last difference in range and the first out of range, under both responses. -/
theorem test_witness_Negate :
    ∀ r ∈ [OverflowResponse.record, .fault],
      (machine [] [] r).env.overflowResponse = r ∧
      ((255 : Byte).toNat : Int) - ((machine [(3, 0x8000000000000100)] [] r).reg 3).toInt = 2 ^ 63 - 1 ∧
      ((0 : Byte).toNat : Int) - ((machine [(3, 0x8000000000000000)] [] r).reg 3).toInt = 2 ^ 63 := by
  decide

/-- A tested instruction that completes, and one that ends in IntegerOverflow. -/
theorem test_witness_UnsignedPartnersMakeNoTest :
    (∃ s t, exec (.add 1 2 3) s = .next t) ∧
    ∃ s l t, exec (.add 1 2 3) s = .fault (.integerOverflow l t) :=
  ⟨⟨machine [] [] .fault, _, rfl⟩, machine [(2, 0x7FFFFFFFFFFFFFFF), (3, 1)] [] .fault, _, _, rfl⟩

theorem test_witness_AddOverflowBySigns :
    ∃ s : State, s.env.overflowResponse = .fault ∧ (s.reg 2).msb = (s.reg 3).msb ∧
      (s.reg 2 + s.reg 3).msb ≠ (s.reg 2).msb :=
  ⟨machine [(2, 0x7FFFFFFFFFFFFFFF), (3, 1)] [] .fault, by decide⟩

theorem test_witness_CarryByComparison :
    (1 : Reg) ≠ 2 ∧ ∃ s : State, 2 ^ 64 = (s.reg 2).toNat + (s.reg 3).toNat :=
  ⟨by decide, machine [(2, 0xFFFFFFFFFFFFFFFF), (3, 1)] [] .fault, by decide⟩

theorem test_witness_HighTetraOverflow :
    ∃ s : State, s.env.overflowResponse = .fault ∧ s.reg 2 = (0x7FFFFFFF : Tetra) ++ (0 : Tetra) ∧
      s.reg 3 = (0x00000001 : Tetra) ++ (0 : Tetra) :=
  ⟨machine [(2, 0x7FFFFFFF00000000), (3, 0x100000000)] [] .fault, by decide⟩

theorem test_witness_MatrixConstants :
    (∃ s : State, s.reg 3 = 0x0102040810204080) ∧ ∃ s : State, s.reg 3 = 0x8040201008040201 :=
  ⟨⟨machine [(3, 0x0102040810204080)] [] .fault, by decide⟩,
    machine [(3, 0x8040201008040201)] [] .fault, by decide⟩

/-- The statements ShiftLeftSigned and ShiftLeftOverflowByBits: a shift by 63 in range and one out of
range, and a shift by 64, under both responses. -/
theorem test_witness_ShiftLeft :
    ∀ r ∈ [OverflowResponse.record, .fault],
      (machine [] [] r).env.overflowResponse = r ∧
      ((machine [(2, 0xFFFFFFFFFFFFFFFF), (3, 63)] [] r).reg 2).toInt *
        2 ^ ((machine [(2, 0xFFFFFFFFFFFFFFFF), (3, 63)] [] r).reg 3).toNat = -(2 ^ 63) ∧
      ((machine [(2, 1), (3, 63)] [] r).reg 2).toInt *
        2 ^ ((machine [(2, 1), (3, 63)] [] r).reg 3).toNat = 2 ^ 63 ∧
      ((machine [(2, 0xFFFFFFFFFFFFFFFF), (3, 64)] [] r).reg 2).toInt *
        2 ^ ((machine [(2, 0xFFFFFFFFFFFFFFFF), (3, 64)] [] r).reg 3).toNat < -(2 ^ 63) := by
  decide

/-- The statements ConditionalSets, ZeroOrSets, OrdinaryBranches and ProbableBranches: each condition
is met by a value and missed by another, at the ends of its range. -/
theorem test_witness_conditions :
    ((0x8000000000000000 : Word).msb = true ∧ (0 : Word).msb = false) ∧
    ((0 : Word) = 0 ∧ (1 : Word) ≠ 0) ∧
    (((1 : Word).msb = false ∧ (1 : Word) ≠ 0) ∧ ¬ ((0 : Word).msb = false ∧ (0 : Word) ≠ 0)) ∧
    ((0xFFFFFFFFFFFFFFFF : Word).getLsbD 0 = true ∧ (0 : Word).getLsbD 0 = false) ∧
    ((0 : Word).msb = true ∨ (0 : Word) = 0) ∧ ¬ ((1 : Word).msb = true ∨ (1 : Word) = 0) := by
  decide

/-- The edges of the assembler's range: the last displacements it takes and the first it refuses, a target
that is not a multiple of 4 away, and a location that is no multiple of 4. -/
theorem test_witness_AssembledBranchReachesItsTarget :
    (machine [(3, 5)] [] .fault).pc = 0x100 ∧ (machine [(3, 5)] [] .fault).reg 3 ≠ 0 ∧
    assembleBranch .bnz .bnzb 3 0x100 0x400FC = some (.bnz 3 0xFFFF) ∧
    assembleBranch .bnz .bnzb 3 0x100 0x40100 = none ∧
    assembleBranch .bnz .bnzb 3 0x80000 0x40000 = some (.bnzb 3 0) ∧
    assembleBranch .bnz .bnzb 3 0x80000 0x3FFFC = none ∧
    assembleBranch .bnz .bnzb 3 0x100 0x106 = none ∧ assembleBranch .bnz .bnzb 3 0x100 0xFF = none ∧
    assembleBranch .bnz .bnzb 3 0x102 0x106 = some (.bnz 3 1) := by
  decide

/-- The launch of the next theorem: registers, text, a byte that the text gives too (#103, where the text
wins), a byte just below the text and one just above it. -/
def edgeLaunch : Launch :=
  { Launch.standard with
    initReg := [(0, 7), (255, 8)], initMem := [(0xFF, 1), (0x103, 9), (0x104, 2)],
    text := [(0x100, 0x20010203)], exit := [0x104] }

/-- The statements LaunchLayout and LaunchKeepsTheInvariant: a well-formed launch that meets the
hypotheses of each clause, and the empty one. -/
theorem test_witness_launches :
    edgeLaunch.wellFormed = true ∧ Launch.standard.wellFormed = true ∧
    ((255, 8) ∈ edgeLaunch.initReg ∧ ∀ v : Word, (1, v) ∉ edgeLaunch.initReg) ∧
    ((0x100, 0x20010203) ∈ edgeLaunch.text ∧ (0x103, 9) ∈ edgeLaunch.initMem) ∧
    ((0x104, 2) ∈ edgeLaunch.initMem ∧ ∀ t : Tetra, (0x104 - 0x104 % 4, t) ∉ edgeLaunch.text) ∧
    (∀ b : Byte, (0xFE, b) ∉ edgeLaunch.initMem) ∧
    ∀ t : Tetra, (0xFE - 0xFE % 4, t) ∉ edgeLaunch.text := by
  refine ⟨by decide, by decide, ⟨by decide, fun v => by simp [edgeLaunch]⟩, by decide,
    ⟨by decide, fun t => by simp [edgeLaunch]⟩, fun b => by simp [edgeLaunch],
    fun t => by simp [edgeLaunch]⟩

/-- Where both give a byte, the byte is the text's. -/
theorem test_launch_text_over_memory :
    (State.ofLaunch edgeLaunch).mem.read 0x103 = some 3 := by decide

/-- The statements StepKeepsTheInvariant, ProgramAndParametersNeverChange and StepMovesByTetrabytes: a
state that meets the invariant and steps. -/
theorem test_witness_StepKeepsTheInvariant :
    ∃ s t, Inv s ∧ step s = .next t ∧ 0x100 ∈ s.env.text ∧ s.env.overflowResponse = .fault := by
  refine ⟨machine [] [] .fault, (machine [] [] .fault).advance, ⟨by decide, by decide, by decide,
    by decide, by decide, fun _ => by decide⟩, rfl, by decide, by decide⟩

/-- A step from a state with the overflow bit set, under `record`. -/
theorem test_witness_OverflowBitIsSticky :
    ∃ s t, step s = .next t ∧ s.ovf = true ∧ s.env.overflowResponse = .record :=
  ⟨{ machine [] [] .record with ovf := true }, { machine [] [] .record with ovf := true }.advance,
    rfl, by decide, by decide⟩

/-- Instructions that complete: one that writes a register, one that stores, one that branches, one
that sets the overflow bit. -/
theorem test_witness_FrameOfEveryInstruction :
    (∃ s t, exec (.addu 1 2 3) s = .next t) ∧ (∃ s t, exec (.sto 1 2 3) s = .next t) ∧
    (∃ s t, exec (.bz 1 2) s = .next t) ∧
    ∃ s t, exec (.stbi 1 2 0) s = .next t ∧ t.ovf ≠ s.ovf :=
  ⟨⟨machine [] [] .fault, _, rfl⟩, ⟨machine [] [] .fault, _, rfl⟩, ⟨machine [] [] .fault, _, rfl⟩,
    machine [(1, 0x80)] [] .record, _, rfl, by decide⟩

theorem test_witness_OnlyFourteenCodesOverflow :
    ∃ s l t, exec (.negi 1 0 1) (machine [] [] .fault) = .next s ∧
      exec (.neg 1 0 3) (machine [(3, 0x8000000000000000)] [] .fault) =
        .fault (.integerOverflow l t) :=
  ⟨_, _, _, rfl, rfl⟩

/-- A load, a store and an instruction that can overflow, each meeting the hypotheses. -/
theorem test_witness_EveryInstructionInScopeRuns :
    (outOfScope (opcode (.ldoi 1 2 0)) = false ∧
      loadedAccess (.ldoi 1 2 0) (machine [(2, 0x1000)] loadBytes .fault) = some (0x1000, 8) ∧
      (machine [(2, 0x1000)] loadBytes .fault).env.mappedRange 0x1000 8 = true ∧
      ∀ k, k < 8 → (machine [(2, 0x1000)] loadBytes .fault).mem.read (0x1000 + k) ≠ none) ∧
    (storedAccess (.stoi 1 2 0) (machine [(2, 0x1000)] [] .fault) = some (0x1000, 8) ∧
      (machine [(2, 0x1000)] [] .fault).env.meetsText 0x1000 8 = false ∧
      canOverflow (.stoi 1 2 0) = false) ∧
    canOverflow (.add 1 2 3) = true ∧ (machine [] [] .record).env.overflowResponse = .record := by
  decide

end Sys2Proof.Tests
end

section
/-! The launch of a program, reset, the addresses of accesses, and what an instruction in scope needs to
complete: the statements of 00_scope.md. -/

namespace Sys2Proof

/-! ## What a well-formed launch gives -/

theorem noRepeat_iff_nodup {α : Type} [DecidableEq α] (l : List α) :
    noRepeat l = true ↔ l.Nodup := by
  induction l with
  | nil => simp [noRepeat]
  | cons a l ih => simp [noRepeat, ih]

theorem tetraAddress_iff (a : Nat) : tetraAddress a = true ↔ a % 4 = 0 ∧ a < 2 ^ 64 := by
  simp [tetraAddress]

/-- The checks of `Launch.wellFormed`, one by one. -/
theorem wellFormed_iff (l : Launch) : l.wellFormed = true ↔
    l.pcAligned = true ∧ l.textWellFormed = true ∧ l.exitWellFormed = true ∧
    l.exitDisjoint = true ∧ l.initRegWellFormed = true ∧ l.initMemWellFormed = true ∧
    l.mappedWellFormed = true := by
  simp only [Launch.wellFormed, Bool.and_eq_true, and_assoc]

section
variable {l : Launch} (h : l.wellFormed = true)
include h

theorem initPc_aligned : l.initPc.toNat % 4 = 0 := by
  obtain ⟨hpc, -⟩ := (wellFormed_iff l).1 h
  simpa [Launch.pcAligned] using hpc

theorem text_aligned {p : Nat × Tetra} (hp : p ∈ l.text) : p.1 % 4 = 0 ∧ p.1 < 2 ^ 64 := by
  obtain ⟨-, htext, -⟩ := (wellFormed_iff l).1 h
  obtain ⟨haddr, -⟩ := Bool.and_eq_true_iff.1 htext
  exact (tetraAddress_iff _).1 (List.all_eq_true.1 haddr p.1 (List.mem_map_of_mem hp))

/-- `TEXT` gives an address one tetrabyte. -/
theorem text_eq_of_address_eq {p q : Nat × Tetra} (hp : p ∈ l.text) (hq : q ∈ l.text)
    (he : p.1 = q.1) : p = q := by
  obtain ⟨-, htext, -⟩ := (wellFormed_iff l).1 h
  obtain ⟨-, hnodup⟩ := Bool.and_eq_true_iff.1 htext
  exact List.inj_on_of_nodup_map ((noRepeat_iff_nodup _).1 hnodup) hp hq he

theorem exit_aligned {a : Nat} (ha : a ∈ l.exit) : a % 4 = 0 ∧ a < 2 ^ 64 := by
  obtain ⟨-, -, hexit, -⟩ := (wellFormed_iff l).1 h
  exact (tetraAddress_iff a).1 (List.all_eq_true.1 hexit a ha)

theorem exit_notMem_text {a : Nat} (ha : a ∈ l.exit) : a ∉ l.text.map (·.1) := by
  obtain ⟨-, -, -, hdisj, -⟩ := (wellFormed_iff l).1 h
  simpa using List.all_eq_true.1 hdisj a ha

/-- `INIT_REG` gives a register one value. -/
theorem initReg_eq_of_register_eq {p q : Reg × Word} (hp : p ∈ l.initReg) (hq : q ∈ l.initReg)
    (he : p.1 = q.1) : p = q := by
  obtain ⟨-, -, -, -, hreg, -⟩ := (wellFormed_iff l).1 h
  exact List.inj_on_of_nodup_map ((noRepeat_iff_nodup _).1 hreg) hp hq he

theorem initMem_lt {p : Nat × Byte} (hp : p ∈ l.initMem) : p.1 < 2 ^ 64 := by
  obtain ⟨-, -, -, -, -, hmem, -⟩ := (wellFormed_iff l).1 h
  obtain ⟨hlt, -⟩ := Bool.and_eq_true_iff.1 hmem
  simpa using List.all_eq_true.1 hlt p hp

/-- `INIT_MEM` gives an address one byte. -/
theorem initMem_eq_of_address_eq {p q : Nat × Byte} (hp : p ∈ l.initMem) (hq : q ∈ l.initMem)
    (he : p.1 = q.1) : p = q := by
  obtain ⟨-, -, -, -, -, hmem, -⟩ := (wellFormed_iff l).1 h
  obtain ⟨-, hnodup⟩ := Bool.and_eq_true_iff.1 hmem
  exact List.inj_on_of_nodup_map ((noRepeat_iff_nodup _).1 hnodup) hp hq he

end

end Sys2Proof

namespace Sys2Proof.Machine

/-! ## A fold of updates, seen at one place

A launch lays its lists out by folding updates over them. `view` is what stands at one place of the
result: a register, or a byte of memory. -/

section
variable {ε σ α : Type} {update : ε → σ → σ} {view : σ → α} {l : List ε}

theorem view_foldr_of_untouched (s : σ) (h : ∀ e ∈ l, ∀ t, view (update e t) = view t) :
    view (l.foldr update s) = view s := by
  induction l with
  | nil => rfl
  | cons e l ih =>
    rw [List.foldr_cons, h e List.mem_cons_self, ih fun d hd => h d (List.mem_cons_of_mem e hd)]

/-- An update of the list sets the place if no other update of the list touches it. -/
theorem view_foldr_of_mem (s : σ) {e : ε} {v : α} (he : e ∈ l) (hset : ∀ t, view (update e t) = v)
    (hother : ∀ d ∈ l, d ≠ e → ∀ t, view (update d t) = view t) :
    view (l.foldr update s) = v := by
  induction l with
  | nil => cases he
  | cons d l ih =>
    rw [List.foldr_cons]
    by_cases hd : d = e
    · rw [hd, hset]
    · rw [hother d List.mem_cons_self hd]
      exact ih ((List.mem_cons.1 he).resolve_left (Ne.symm hd)) fun c hc =>
        hother c (List.mem_cons_of_mem d hc)

end

/-! ## One tetrabyte in memory -/

/-- Byte k of a tetrabyte, the most significant first (20_memory.md R41). -/
theorem getElem?_tetraBytes (t : Tetra) {k : Nat} (h : k < 4) :
    (tetraBytes t)[k]? = some (t.extractLsb' (24 - 8 * k) 8) := by
  match k, h with
  | 0, _ => rfl
  | 1, _ => rfl
  | 2, _ => rfl
  | 3, _ => rfl

theorem read_writeTetra_inside (m : Memory) (a : Nat) (t : Tetra) {k : Nat} (h : k < 4) :
    (m.writeTetra a t).read (a + k) = some (t.extractLsb' (24 - 8 * k) 8) := by
  have hlen : (tetraBytes t).length = 4 := rfl
  rw [Memory.writeTetra, read_writeBytes, hlen, if_pos (by omega), Nat.add_sub_cancel_left,
    getElem?_tetraBytes t h]

/-- A tetrabyte placed at a multiple of 4 touches the bytes that align to it, and no other. -/
theorem read_writeTetra_outside (m : Memory) {a c : Nat} (t : Tetra) (ha : a % 4 = 0)
    (h : c - c % 4 ≠ a) : (m.writeTetra a t).read c = m.read c := by
  have hlen : (tetraBytes t).length = 4 := rfl
  exact read_writeBytes_outside _ _ _ _ (by rw [hlen]; omega)

/-! ## The state that a launch lays out -/

section
variable {l : Launch}

theorem reg_ofLaunch (l : Launch) (r : Reg) :
    (State.ofLaunch l).reg r = (launchRegisters l)[r.val] := rfl

/-- A register that `INIT_REG` does not name holds the value of log 1. -/
theorem reg_ofLaunch_of_unset {r : Reg} (h : ∀ v, (r, v) ∉ l.initReg) :
    (State.ofLaunch l).reg r = Config.unsetRegister := by
  rw [reg_ofLaunch, launchRegisters]
  refine (view_foldr_of_untouched (view := fun regs : Vector Word 256 => regs[r.val]) _ ?_).trans
    (Vector.getElem_replicate _)
  intro e he t
  have hne : e.1 ≠ r := fun h' => h e.2 (h' ▸ he)
  exact Vector.getElem_set_ne _ _ (Fin.val_ne_of_ne hne)

/-- The bytes of `INIT_MEM` alone, as a launch lays them out under the text. -/
def initialBytes (l : Launch) : Memory := l.initMem.foldr (fun p m => Memory.write m p.1 p.2) []

theorem launchMemory_eq (l : Launch) :
    launchMemory l = l.text.foldr (fun p m => Memory.writeTetra m p.1 p.2) (initialBytes l) := rfl

theorem read_initialBytes_of_unset {a : Nat} (h : ∀ b, (a, b) ∉ l.initMem) :
    (initialBytes l).read a = none := by
  refine view_foldr_of_untouched (view := fun m : Memory => m.read a) [] ?_
  intro e he m
  have hne : a ≠ e.1 := fun h' => h e.2 (h' ▸ he)
  exact (read_write m e.1 a e.2).trans (if_neg hne)

variable (h : l.wellFormed = true)
include h

/-- A register that `INIT_REG` names holds its value. -/
theorem reg_ofLaunch_of_mem {r : Reg} {v : Word} (hr : (r, v) ∈ l.initReg) :
    (State.ofLaunch l).reg r = v := by
  rw [reg_ofLaunch, launchRegisters]
  refine view_foldr_of_mem (view := fun regs : Vector Word 256 => regs[r.val]) _ hr
    (fun t => Vector.getElem_set_self _) ?_
  intro e he hne t
  have hreg : e.1 ≠ r := fun h' => hne (initReg_eq_of_register_eq h he hr h')
  exact Vector.getElem_set_ne _ _ (Fin.val_ne_of_ne hreg)

theorem read_initialBytes_of_mem {a : Nat} {b : Byte} (ha : (a, b) ∈ l.initMem) :
    (initialBytes l).read a = some b := by
  refine view_foldr_of_mem (view := fun m : Memory => m.read a) [] ha
    (fun m => (read_write m a a b).trans (if_pos rfl)) ?_
  intro e he hne m
  have haddr : a ≠ e.1 := fun h' => hne (initMem_eq_of_address_eq h he ha h'.symm)
  exact (read_write m e.1 a e.2).trans (if_neg haddr)

/-- The bytes of `TEXT` stand over those of `INIT_MEM`, most significant first. -/
theorem read_launchMemory_of_text {a : Nat} {t : Tetra} (ha : (a, t) ∈ l.text) {k : Nat}
    (hk : k < 4) : (launchMemory l).read (a + k) = some (t.extractLsb' (24 - 8 * k) 8) := by
  rw [launchMemory_eq]
  refine view_foldr_of_mem (view := fun m : Memory => m.read (a + k)) _ ha
    (fun m => read_writeTetra_inside m a t hk) ?_
  intro e he hne m
  have haddr : e.1 ≠ a := fun h' => hne (text_eq_of_address_eq h he ha h')
  have hmod : a % 4 = 0 := (text_aligned h ha).1
  exact read_writeTetra_outside m e.2 (text_aligned h he).1 (by omega)

/-- Outside `TEXT` only `INIT_MEM` counts. -/
theorem read_launchMemory_outside_text {a : Nat} (ha : ∀ t, (a - a % 4, t) ∉ l.text) :
    (launchMemory l).read a = (initialBytes l).read a := by
  rw [launchMemory_eq]
  refine view_foldr_of_untouched (view := fun m : Memory => m.read a) _ ?_
  intro e he m
  exact read_writeTetra_outside m e.2 (text_aligned h he).1 fun h' => ha e.2 (h' ▸ he)

theorem wf_initialBytes : (initialBytes l).wf = true :=
  List.foldrRecOn l.initMem _ (motive := fun m : Memory => m.wf = true) rfl fun m hm e he =>
    wf_write m e.1 e.2 hm (initMem_lt h he)

theorem wf_launchMemory : (launchMemory l).wf = true :=
  List.foldrRecOn l.text _ (motive := fun m : Memory => m.wf = true) (wf_initialBytes h)
    fun m hm e he => by
      obtain ⟨hmod, hlt⟩ := text_aligned h he
      exact wf_writeTetra m e.1 e.2 hm (by omega)

theorem inv_ofLaunch : Inv (State.ofLaunch l) where
  memory := wf_launchMemory h
  pcAligned := initPc_aligned h
  textAligned := List.forall_mem_map.2 fun _ he => text_aligned h he
  exitDisjoint a ha := by
    obtain ⟨hmod, hlt⟩ := exit_aligned h ha
    exact ⟨hmod, hlt, exit_notMem_text h ha⟩
  textHolds := List.forall_mem_map.2 fun e he k hk => by
    rw [mem_ofLaunch, read_launchMemory_of_text h he hk]; rfl
  overflowBit _ := rfl

end

/-- Settles O52: each clause is what the fold of the launch's updates leaves at one place. -/
theorem launchLayout : Obligations.LaunchLayout := by
  intro l h
  refine ⟨rfl, fun _ _ hr => reg_ofLaunch_of_mem h hr, fun _ hr => reg_ofLaunch_of_unset hr, rfl,
    fun _ _ ha _ hk => read_launchMemory_of_text h ha hk, fun a b ha ht => ?_, fun a ha ht => ?_,
    rfl, rfl⟩
  · rw [mem_ofLaunch, read_launchMemory_outside_text h ht, read_initialBytes_of_mem h ha]
  · rw [mem_ofLaunch, read_launchMemory_outside_text h ht, read_initialBytes_of_unset ha]

/-- Settles O53, field by field from the launch's checks (`inv_ofLaunch`). -/
theorem launchKeepsTheInvariant : Obligations.LaunchKeepsTheInvariant :=
  fun _ h => inv_ofLaunch h

/-! ## Reset -/

/-- Reset is the launch with nothing given (log 5). -/
theorem reset_eq_ofLaunch_standard : State.reset = State.ofLaunch Launch.standard := rfl

/-- Settles O51: reset is a well-formed launch. -/
theorem resetKeepsTheInvariant : Obligations.ResetKeepsTheInvariant := by
  have hwf : Launch.standard.wellFormed = true := by decide
  rw [Obligations.ResetKeepsTheInvariant, reset_eq_ofLaunch_standard]
  exact inv_ofLaunch hwf

theorem mappedByte_reset (a : Nat) : State.reset.env.mappedByte a = true ↔ a < 2 ^ 64 := by
  simp only [Env.mappedByte, State.reset, Config.allMapped, List.any_cons, List.any_nil,
    Bool.or_false, Bool.and_eq_true, decide_eq_true_eq]
  omega

/-- Settles O49: reset lists no byte, and one range that holds every address. -/
theorem resetOfTheEmptyLaunch : Obligations.ResetOfTheEmptyLaunch :=
  ⟨read_nil, rfl, mappedByte_reset, rfl⟩

/-! ## The address of an access -/

theorem exists_sizeBytes_eq_two_pow (z : Size) : ∃ k ≤ 3, sizeBytes z = 2 ^ k := by
  cases z
  · exact ⟨0, by decide, rfl⟩
  · exact ⟨1, by decide, rfl⟩
  · exact ⟨2, by decide, rfl⟩
  · exact ⟨3, by decide, rfl⟩

/-- Aligning to 2^k clears the k low bits: it is a mask (00_scope.md R12). -/
theorem align_two_pow_eq_and {a n k : Nat} (ha : a < 2 ^ n) (hk : k ≤ n) :
    align a (2 ^ k) = a &&& (2 ^ n - 2 ^ k) := by
  have halign : align a (2 ^ k) = a >>> k <<< k := by
    rw [align, Nat.shiftLeft_eq, Nat.shiftRight_eq_div_pow, Nat.div_mul_self_eq_mod_sub_self]
  have hmask : 2 ^ n - 2 ^ k = (2 ^ (n - k) - 1) <<< k := by
    rw [Nat.shiftLeft_eq, Nat.sub_mul, ← pow_add, Nat.sub_add_cancel hk, Nat.one_mul]
  rw [halign, hmask]
  apply Nat.eq_of_testBit_eq
  intro i
  simp only [Nat.testBit_and, Nat.testBit_shiftLeft, Nat.testBit_shiftRight,
    Nat.testBit_two_pow_sub_one]
  by_cases hki : k ≤ i
  · by_cases hin : i < n
    · simp [hki, Nat.add_sub_cancel' hki, show i - k < n - k by omega]
    · have hbit : a.testBit i = false :=
        Nat.testBit_lt_two_pow (ha.trans_le (Nat.pow_le_pow_right (by decide) (by omega)))
      simp [Nat.add_sub_cancel' hki, hki, hbit]
  · simp [hki]

theorem accessAddress_eq_and (a : Word) (z : Size) :
    accessAddress a z = (a &&& BitVec.ofNat 64 (2 ^ 64 - sizeBytes z)).toNat := by
  obtain ⟨k, hk, hz⟩ := exists_sizeBytes_eq_two_pow z
  have hpos : 0 < 2 ^ k := Nat.two_pow_pos k
  rw [accessAddress, hz, align_two_pow_eq_and a.isLt (by omega), BitVec.toNat_and,
    BitVec.toNat_ofNat, Nat.mod_eq_of_lt (by omega)]

/-- Settles O17: the low 64 bits of the sum are the word sum, and aligning is masking. -/
theorem accessesAreAlignedByMasking : Obligations.AccessesAreAlignedByMasking := by
  intro y z size
  refine ⟨?_, accessAddress_mod _ _, accessAddress_add_size_le _ _⟩
  rw [effectiveAddress_eq, accessAddress_eq_and]

/-! ## What an instruction in scope needs to complete -/

/-- What `exec` answers: one of the shared operations, with what the instruction names as its operands,
or the refusal of a code out of scope. -/
inductive Meaning (i : Instr) (s : State) : Prop where
  | register (x : Reg) (v : Word) (hd : destination i = some x) (he : exec i s = s.result x v)
  | signed (x : Reg) (v : Word) (o : Bool) (hd : destination i = some x)
      (hc : canOverflow i = true) (he : exec i s = (s.setReg x v).complete o)
  | load (x : Reg) (a : Word) (z : Size) (extend : Nat → Word)
      (ha : loadedAccess i s = some (accessAddress a z, sizeBytes z))
      (hd : destination i = some x) (he : exec i s = s.load x a z extend)
  | store (a : Word) (z : Size) (v : Word) (o : Bool)
      (ha : storedAccess i s = some (accessAddress a z, sizeBytes z))
      (hc : o = false ∨ canOverflow i = true) (he : exec i s = s.store a z v o)
  | conditional (c : Condition) (x y : Reg) (z : Word) (hd : destination i = some x)
      (he : exec i s = s.conditionalSet c x y z)
  | branch (c : Condition) (d : Direction) (x : Reg) (yz : Wyde) (hd : destination i = none)
      (he : exec i s = s.branch c d x yz)
  | unspecified (op : Byte) (name : String) (ho : outOfScope (opcode i) = true)
      (he : exec i s = .refused (.opcodeNotSpecified op name))

/-- The one case split over the instructions: every arm of `exec` has one of these meanings. -/
theorem meaning_of_exec (i : Instr) (s : State) : Meaning i s := by
  cases i with
  | add | addi | sub | subi | neg | negi | sl | sli =>
    exact .signed _ _ _ rfl rfl rfl
  | ldb | ldbi | ldbu | ldbui | ldw | ldwi | ldwu | ldwui | ldt | ldti | ldtu | ldtui | ldo
  | ldoi | ldou | ldoui | ldht | ldhti =>
    exact .load _ _ _ _ rfl rfl rfl
  | stb | stbi | stw | stwi | stt | stti =>
    exact .store _ _ _ _ rfl (.inr rfl) rfl
  | stbu | stbui | stwu | stwui | sttu | sttui | sto | stoi | stou | stoui | stco | stcoi | stht
  | sthti =>
    exact .store _ _ _ _ rfl (.inl rfl) rfl
  | csn | csni | csz | cszi | csp | cspi | csod | csodi | csnn | csnni | csnz | csnzi | csnp
  | csnpi | csev | csevi =>
    exact .conditional _ _ _ _ rfl rfl
  | bn | bnb | bz | bzb | bp | bpb | bod | bodb | bnn | bnnb | bnz | bnzb | bnp | bnpb | bev
  | bevb | pbn | pbnb | pbz | pbzb | pbp | pbpb | pbod | pbodb | pbnn | pbnnb | pbnz | pbnzb | pbnp
  | pbnpb | pbev | pbevb =>
    exact .branch _ _ _ _ rfl rfl
  | trap | fcmp | fun_ | feql | fadd | fix | fsub | fixu | flot | floti | flotu | flotui | sflot
  | sfloti | sflotu | sflotui | fmul | fcmpe | fune | feqle | fdiv | fsqrt | frem | fint | mul
  | muli | mulu | mului | div | divi | divu | divui | ldsf | ldsfi | cswap | cswapi | ldunc
  | ldunci | ldvts | ldvtsi | preld | preldi | prego | pregoi | go | goi | stsf | stsfi | stunc
  | stunci | syncd | syncdi | prest | presti | syncid | syncidi | pushgo | pushgoi | jmp | jmpb
  | pushj | pushjb | geta | getab | put | puti | pop | resume | save | unsave | sync | swym | get
  | trip =>
    exact .unspecified _ _ rfl rfl
  | _ => exact .register _ _ rfl rfl

theorem complete_completes {s : State} {o : Bool}
    (h : s.env.overflowResponse = .record ∨ o = false) : ∃ t, s.complete o = .next t := by
  cases o with
  | false => exact ⟨_, (complete_eq_next _ _ _).2 (.inl ⟨rfl, rfl⟩)⟩
  | true =>
    have hr := h.resolve_right (by decide)
    exact ⟨_, (complete_eq_next _ _ _).2 (.inr ⟨rfl, hr, rfl⟩)⟩

/-- A load of mapped bytes that hold values completes. -/
theorem load_completes {s : State} (x : Reg) {a : Word} {z : Size} (f : Nat → Word)
    (hm : Mapped s (accessAddress a z) (sizeBytes z))
    (hv : ∀ k, k < sizeBytes z → s.mem.read (accessAddress a z + k) ≠ none) :
    ∃ t, s.load x a z f = .next t := by
  cases hb : s.mem.readBytes (accessAddress a z) (sizeBytes z) with
  | ok bytes =>
    exact ⟨_, (load_eq_next _ _ _ _ _ _).2 ⟨(mappedRange_iff _ _ _).2 hm, bytes, hb, rfl⟩⟩
  | error e =>
    obtain ⟨hle, hlt, hnone, -⟩ := (readBytes_eq_error _ _ _ _).1 hb
    obtain ⟨k, rfl⟩ := Nat.exists_eq_add_of_le hle
    exact absurd hnone (hv k (by omega))

/-- A store of mapped bytes clear of the program text completes, unless it ends in the exception. -/
theorem store_completes {s : State} {a : Word} {z : Size} (v : Word) {o : Bool}
    (hm : Mapped s (accessAddress a z) (sizeBytes z))
    (ht : ¬ MeetsText s (accessAddress a z) (sizeBytes z))
    (ho : s.env.overflowResponse = .record ∨ o = false) : ∃ t, s.store a z v o = .next t := by
  rw [← meetsText_iff, Bool.not_eq_true] at ht
  rw [store_of_mapped s a z v o ((mappedRange_iff _ _ _).2 hm) ht]
  exact complete_completes ho

/-- Settles O58, by the form that the instruction's meaning takes. -/
theorem everyInstructionInScopeRuns : Obligations.EveryInstructionInScopeRuns := by
  intro i s hscope hload hstore hoverflow
  cases meaning_of_exec i s with
  | register x v hd he => exact ⟨_, he⟩
  | signed x v o hd hc he =>
    rw [he]
    exact complete_completes (hoverflow.imp_right fun hn => absurd hc (by simp [hn]))
  | load x a z f ha hd he =>
    obtain ⟨hm, hv⟩ := hload _ _ ha
    rw [he]
    exact load_completes x f hm hv
  | store a z v o ha hc he =>
    obtain ⟨hm, ht⟩ := hstore _ _ ha
    have ho : s.env.overflowResponse = .record ∨ o = false :=
      hoverflow.imp_right fun hn => hc.resolve_right (by simp [hn])
    rw [he]
    exact store_completes v hm ht ho
  | conditional c x y z hd he => exact ⟨_, he.trans (conditionalSet_eq s c x y z)⟩
  | branch c d x yz hd he => exact ⟨_, he.trans (branch_eq s c d x yz)⟩
  | unspecified op name ho he => exact absurd ho (by simp [hscope])

end Sys2Proof.Machine
end

section
/-! What an instruction that completes leaves as it was, what a step keeps, which instruction a step
runs, and when a load stops: the statements of 10_state.md. -/

namespace Sys2Proof.Machine

/-! ## What each effect leaves of the state, one field after the other -/

section
variable {i : Instr} {s t : State} (h : Effect i s t)
include h

theorem Effect.reg_eq {r : Reg} (hr : destination i ≠ some r) : t.reg r = s.reg r := by
  cases h with
  | register x v b hd hb =>
    have hne : r ≠ x := fun e => hr (e ▸ hd)
    exact reg_setReg_other s v hne
  | nothing | store | branch => rfl

theorem Effect.rM_eq : t.rM = s.rM := by
  cases h <;> rfl

theorem Effect.env_eq : t.env = s.env := by
  cases h <;> rfl

theorem Effect.overflowAfter : OverflowAfter i s t.ovf := by
  cases h with
  | register x v b hd hb => exact hb
  | store a z v b ha hm ht hb => exact hb
  | nothing | branch => exact .inl rfl

/-- A byte that changes is one that the instruction stores, and no such byte is of `TEXT`. -/
theorem Effect.read_eq_or_stored (b : Nat) : t.mem.read b = s.mem.read b ∨
    ∃ a n, storedAccess i s = some (a, n) ∧ ¬ MeetsText s a n ∧ a ≤ b ∧ b < a + n := by
  cases h with
  | register | nothing | branch => exact .inl rfl
  | store a z v o ha hm ht ho =>
    rw [← Bool.not_eq_true, meetsText_iff] at ht
    by_cases hb : accessAddress a z ≤ b ∧ b < accessAddress a z + sizeBytes z
    · exact .inr ⟨_, _, ha, ht, hb⟩
    · exact .inl (read_storeBytes_outside s a z v b (by omega))

theorem Effect.read_eq_outside {b : Nat}
    (hb : ∀ a n, storedAccess i s = some (a, n) → b < a ∨ a + n ≤ b) :
    t.mem.read b = s.mem.read b := by
  refine (h.read_eq_or_stored b).resolve_right ?_
  rintro ⟨a, n, ha, -, hle, hlt⟩
  have := hb a n ha
  omega

/-- No byte of the program text changes (20_memory.md R53). -/
theorem Effect.read_text_eq {a k : Nat} (ha : a ∈ s.env.text) (hk : k < 4) (hmod : a % 4 = 0) :
    t.mem.read (a + k) = s.mem.read (a + k) := by
  refine (h.read_eq_or_stored (a + k)).resolve_right ?_
  rintro ⟨c, n, -, hclear, hle, hlt⟩
  have halign : c + (a + k - c) - (c + (a + k - c)) % 4 = a := by omega
  exact hclear ⟨a + k - c, by omega, by rwa [halign]⟩

theorem Effect.wf_mem (hs : s.mem.wf = true) : t.mem.wf = true := by
  cases h with
  | register | nothing | branch => exact hs
  | store a z v b ha hm ht hb => exact wf_storeBytes s a z v hs

end

/-! ## Where `pc` goes -/

theorem branchTarget_eq (pc : Word) (d : Direction) (yz : Wyde) :
    branchTarget pc d yz = pc + BitVec.ofInt 64 (4 * branchOffset d yz) := by
  rw [branchTarget, u64, BitVec.ofInt_add, BitVec.ofInt_natCast, BitVec.ofNat_toNat,
    BitVec.setWidth_eq]

theorem branchOffset_range (d : Direction) (yz : Wyde) :
    -65536 ≤ branchOffset d yz ∧ branchOffset d yz ≤ 65535 := by
  have hlt : yz.toNat < 65536 := yz.isLt
  cases d <;> simp only [branchOffset] <;> omega

/-- Adding a multiple of 4 modulo 2^64 keeps the remainder modulo 4. -/
theorem toNat_add_ofInt_four_mul_mod (w : Word) (k : Int) :
    (w + BitVec.ofInt 64 (4 * k)).toNat % 4 = w.toNat % 4 := by
  rw [BitVec.toNat_add, BitVec.toNat_ofInt]
  omega

/-- The next instruction is one tetrabyte on; a branch reaches from -65536 to 65535 tetrabytes. -/
theorem Effect.pc_eq {i : Instr} {s t : State} (h : Effect i s t) :
    ∃ k : Int, -65536 ≤ k ∧ k ≤ 65535 ∧ t.pc = s.pc + BitVec.ofInt 64 (4 * k) := by
  cases h with
  | register | nothing | store => exact ⟨1, by decide, by decide, rfl⟩
  | branch d yz =>
    obtain ⟨hlow, hhigh⟩ := branchOffset_range d yz
    exact ⟨_, hlow, hhigh, branchTarget_eq s.pc d yz⟩

theorem Effect.pc_mod_four {i : Instr} {s t : State} (h : Effect i s t) :
    t.pc.toNat % 4 = s.pc.toNat % 4 := by
  obtain ⟨k, -, -, hk⟩ := h.pc_eq
  rw [hk, toNat_add_ofInt_four_mul_mod]

/-- Settles O56, field by field from what the completed instruction did (`exec_next`). -/
theorem frameOfEveryInstruction : Obligations.FrameOfEveryInstruction := by
  intro i s t hexec
  have h : Effect i s t := exec_next hexec
  exact ⟨fun _ => h.reg_eq, h.rM_eq, h.env_eq, fun _ => h.read_eq_outside,
    h.overflowAfter.resolve_left⟩

/-! ## What a step keeps -/

theorem exists_effect_of_step {s t : State} (h : step s = .next t) : ∃ i, Effect i s t := by
  obtain ⟨-, -, w, -, hexec⟩ := step_next h
  exact ⟨decode w, exec_next hexec⟩

/-- Settles O55: a step is one effect, and a store that completes is clear of `TEXT`. -/
theorem programAndParametersNeverChange : Obligations.ProgramAndParametersNeverChange := by
  intro s t hstep
  obtain ⟨i, h⟩ := exists_effect_of_step hstep
  exact ⟨h.rM_eq, h.env_eq, fun _ ha _ => h.read_text_eq ha⟩

/-- Settles O59: a step is one effect, which moves `pc` by tetrabytes. -/
theorem stepMovesByTetrabytes : Obligations.StepMovesByTetrabytes := by
  intro s t hstep
  obtain ⟨i, h⟩ := exists_effect_of_step hstep
  exact ⟨h.pc_eq, h.pc_mod_four⟩

theorem OverflowAfter.eq_of_fault {i : Instr} {s : State} {b : Bool} (h : OverflowAfter i s b)
    (hr : s.env.overflowResponse = .fault) : b = s.ovf := by
  refine h.resolve_right ?_
  rintro ⟨-, hrecord, -⟩
  rw [hr] at hrecord
  cases hrecord

theorem OverflowAfter.set_of_set {i : Instr} {s : State} {b : Bool} (h : OverflowAfter i s b)
    (hs : s.ovf = true) : b = true := by
  obtain heq | ⟨-, -, hset⟩ := h
  · rw [heq, hs]
  · exact hset

/-- Under `record` the exception sets the overflow bit and completes (60_exceptions.md R263). -/
theorem raiseIntegerOverflow_of_record {s : State} (h : s.env.overflowResponse = .record) :
    s.raiseIntegerOverflow = .next ({ s with ovf := true } : State).advance := by
  rw [State.raiseIntegerOverflow, h]

/-- Settles O60: `ovf` is as it was or set by the exception, which needs `record`. -/
theorem overflowBitIsSticky : Obligations.OverflowBitIsSticky := by
  refine ⟨rfl, fun s t hstep => ?_, fun s hr => ⟨_, raiseIntegerOverflow_of_record hr, rfl, rfl⟩⟩
  obtain ⟨i, h⟩ := exists_effect_of_step hstep
  exact ⟨h.overflowAfter.set_of_set, h.overflowAfter.eq_of_fault⟩

/-- Settles O54: every clause of the invariant is about fields that the effect keeps, or moves as
`pc` and memory may move. -/
theorem stepKeepsTheInvariant : Obligations.StepKeepsTheInvariant := by
  intro s t hs hstep
  obtain ⟨i, h⟩ := exists_effect_of_step hstep
  have henv : t.env = s.env := h.env_eq
  exact {
    memory := h.wf_mem hs.memory
    pcAligned := h.pc_mod_four.trans hs.pcAligned
    textAligned := henv ▸ hs.textAligned
    exitDisjoint := henv ▸ hs.exitDisjoint
    textHolds := by
      rw [henv]
      intro a ha k hk
      rw [h.read_text_eq ha hk (hs.textAligned a ha).1]
      exact hs.textHolds a ha k hk
    overflowBit := by
      rw [henv]
      intro hr
      exact (h.overflowAfter.eq_of_fault hr).trans (hs.overflowBit hr) }

/-! ## Which instruction a step runs -/

theorem toNat_append_byte {n : Nat} (v : BitVec n) (b : Byte) :
    (v ++ b).toNat = v.toNat * 256 + b.toNat := by
  rw [BitVec.toNat_append, ← Nat.shiftLeft_add_eq_or_of_lt b.isLt, Nat.shiftLeft_eq]

/-- The radix-256 number of four bytes is the tetrabyte they are put together to (20_memory.md
R41). -/
theorem ofNat_numberOfBytes_four (op x y z : Byte) :
    BitVec.ofNat 32 (numberOfBytes [op, x, y, z]) = tetraOfFields op x y z := by
  have hnumber : numberOfBytes [op, x, y, z] = (tetraOfFields op x y z).toNat := by
    simp [numberOfBytes, tetraOfFields, toNat_append_byte]
  rw [hnumber, BitVec.ofNat_toNat, BitVec.setWidth_eq]

theorem fetch_of_bytes {s : State} {op x y z : Byte} (hop : s.mem.read s.location = some op)
    (hx : s.mem.read (s.location + 1) = some x) (hy : s.mem.read (s.location + 2) = some y)
    (hz : s.mem.read (s.location + 3) = some z) : s.fetch = .ok (tetraOfFields op x y z) := by
  have hbytes : s.mem.readBytes s.location 4 = .ok [op, x, y, z] := by
    refine (readBytes_eq_ok _ _ _ _).2 ⟨rfl, fun k hk => ?_⟩
    match k, hk with
    | 0, _ => exact hop
    | 1, _ => exact hx
    | 2, _ => exact hy
    | 3, _ => exact hz
  rw [State.fetch, hbytes, ← ofNat_numberOfBytes_four]

/-- In `TEXT` and away from the exits a step is the execution of what it fetches. -/
theorem step_of_fetch {s : State} {w : Tetra} (hexit : s.location ∉ s.env.exit)
    (htext : s.location ∈ s.env.text) (hf : s.fetch = .ok w) : step s = exec (decode w) s := by
  simp [step, State.atExit, State.inText, hexit, htext, hf]

/-- Settles O6: the step fetches the tetrabyte that the four bytes make up. -/
theorem stepRunsTheDecodedInstruction : Obligations.StepRunsTheDecodedInstruction := by
  rintro s _ op x y z i rfl hexit htext hop hx hy hz hdecode
  have hi : decode (tetraOfFields op x y z) = i := Except.ok.inj hdecode
  rw [← hi]
  exact step_of_fetch hexit htext (fetch_of_bytes hop hx hy hz)

/-! ## When a load stops -/

/-- An instruction that names a loaded access is a load of just these bytes. -/
theorem exec_of_loadedAccess {i : Instr} {s : State} {a n : Nat}
    (h : loadedAccess i s = some (a, n)) :
    ∃ x w z f, a = accessAddress w z ∧ n = sizeBytes z ∧ exec i s = s.load x w z f := by
  cases i with
  | ldb | ldbi | ldbu | ldbui | ldw | ldwi | ldwu | ldwui | ldt | ldti | ldtu | ldtui | ldo
  | ldoi | ldou | ldoui | ldht | ldhti =>
    cases h
    exact ⟨_, _, _, _, rfl, rfl, rfl⟩
  | _ => cases h

/-- Settles O12: the first check of a load is `MAPPED`, the second finds the first byte without a
value. -/
theorem loadsThatStop : Obligations.LoadsThatStop := by
  intro i s a n h
  obtain ⟨x, w, z, f, rfl, rfl, hexec⟩ := exec_of_loadedAccess h
  rw [hexec]
  refine ⟨fun hm => ?_, fun hm e hle hlt hnone hfirst => ?_⟩
  · rw [← mappedRange_iff, Bool.not_eq_true] at hm
    exact (load_eq_fault _ _ _ _ _ _).2 (.inl ⟨hm, rfl⟩)
  · have herror : s.mem.readBytes (accessAddress w z) (sizeBytes z) = .error e :=
      (readBytes_eq_error _ _ _ _).2
        ⟨hle, hlt, hnone, fun c hac hce => Option.isSome_iff_ne_none.2 (hfirst c hac hce)⟩
    exact (load_eq_fault _ _ _ _ _ _).2 (.inr ⟨(mappedRange_iff _ _ _).2 hm, e, herror, rfl⟩)

end Sys2Proof.Machine
end

section
/-! When a store stops, and what is read back of the bytes that a store wrote: the statements of
20_memory.md. -/

namespace Sys2Proof.Machine

/-! ## When a store stops -/

/-- An instruction that names a stored access is a store to just these bytes. -/
theorem exec_of_storedAccess {i : Instr} {s : State} {a n : Nat}
    (h : storedAccess i s = some (a, n)) :
    ∃ w z v o, a = accessAddress w z ∧ n = sizeBytes z ∧ exec i s = s.store w z v o := by
  cases i with
  | stb | stbi | stbu | stbui | stw | stwi | stwu | stwui | stt | stti | sttu | sttui | sto | stoi
  | stou | stoui | stco | stcoi | stht | sthti =>
    cases h
    exact ⟨_, _, _, _, rfl, rfl, rfl⟩
  | _ => cases h

/-- Settles O16: the first check of a store is `MAPPED`, the second is `TEXT`, and both come before
the write and its test for overflow. -/
theorem storesThatStop : Obligations.StoresThatStop := by
  intro i s a n h
  obtain ⟨w, z, v, o, rfl, rfl, hexec⟩ := exec_of_storedAccess h
  rw [hexec, ← mappedRange_iff, ← meetsText_iff, Bool.not_eq_true]
  exact ⟨fun hm => (store_eq_fault _ _ _ _ _ _).2 (.inl ⟨hm, rfl⟩),
    fun hm ht => (store_eq_refused _ _ _ _ _ _).2 ⟨hm, ht, rfl⟩⟩

/-! ## Reading back what was written -/

/-- The low bytes of a value make up its low bits (20_memory.md R40). -/
theorem numberOfBytes_bytesOfWord (n : Nat) (v : Word) :
    numberOfBytes (bytesOfWord n v) = v.toNat % 2 ^ (8 * n) := by
  suffices hfold : ∀ acc : Nat, (bytesOfWord n v).foldl (fun k b => k * 256 + b.toNat) acc =
      acc * 2 ^ (8 * n) + v.toNat % 2 ^ (8 * n) by
    simpa [numberOfBytes] using hfold 0
  induction n with
  | zero => simp [bytesOfWord, Nat.mod_one]
  | succ n ih =>
    intro acc
    have hpow : 2 ^ (8 * (n + 1)) = 2 ^ (8 * n) * 2 ^ 8 := by rw [← pow_add]; rfl
    rw [bytesOfWord, List.foldl_cons, ih, BitVec.extractLsb'_toNat, Nat.shiftRight_eq_div_pow, hpow,
      Nat.mod_mul]
    ring

/-- Bytes `j` to `j + k - 1` of the n bytes written are the k low bytes of the value shifted right
by the bytes that follow them. -/
theorem readBytes_writeBytes_bytesOfWord (m : Memory) (a : Nat) (v : Word) {n j k : Nat}
    (h : j + k ≤ n) : (m.writeBytes a (bytesOfWord n v)).readBytes (a + j) k =
      .ok (bytesOfWord k (v >>> (8 * (n - (j + k))))) := by
  refine (readBytes_eq_ok _ _ _ _).2 ⟨length_bytesOfWord _ _, fun i hi => ?_⟩
  have hshift : 8 * (n - 1 - (j + i)) = 8 * (n - (j + k)) + 8 * (k - 1 - i) := by omega
  rw [Nat.add_assoc, read_writeBytes, length_bytesOfWord, if_pos (by omega),
    Nat.add_sub_cancel_left, getElem?_bytesOfWord _ _ _ (by omega), getElem?_bytesOfWord _ _ _ hi,
    hshift]
  congr 1
  ext p
  simp [Nat.add_assoc]

/-- Bytes `j` to `j + k - 1` of an octabyte written read back as its bits from `p` on, where `p` is
how many bits follow them (20_memory.md R43). -/
theorem readBytes_part_of_octabyte (m : Memory) (a : Nat) (v : Word) (j k p : Nat)
    (hp : 8 * (j + k) + p = 64) :
    ∃ bs, (m.writeBytes a (bytesOfWord 8 v)).readBytes (a + j) k = .ok bs ∧
      numberOfBytes bs = (v.extractLsb' p (8 * k)).toNat := by
  obtain rfl : p = 8 * (8 - (j + k)) := by omega
  refine ⟨_, readBytes_writeBytes_bytesOfWord m a v (by omega), ?_⟩
  rw [numberOfBytes_bytesOfWord, BitVec.toNat_ushiftRight, BitVec.extractLsb'_toNat]

/-- Settles O18: each reading is of bytes `j` to `j + k - 1` of the octabyte. In plain memory it is
so at every address, aligned or not. -/
theorem mixedWidthReadBack : Obligations.MixedWidthReadBack := by
  intro m a v _
  refine ⟨fun i hi => ?_, readBytes_part_of_octabyte m a v 0 4 32 rfl,
    readBytes_part_of_octabyte m a v 4 4 0 rfl, readBytes_part_of_octabyte m a v 6 2 0 rfl⟩
  rw [read_writeBytes, length_bytesOfWord, if_pos (by omega), Nat.add_sub_cancel_left,
    getElem?_bytesOfWord _ _ _ hi, show 8 * (8 - 1 - i) = 56 - 8 * i by omega]

/-! ## A load right after a store -/

/-- An instruction whose meaning is `State.result` sets its register and nothing else. -/
theorem sets_of_exec_eq_result {op : Byte} {i : Instr} {s : State} {x : Reg} {v : Word}
    (hop : opcode i = op) (hexec : exec i s = s.result x v) : Sets op i s x v :=
  ⟨hop, _, hexec, { writesRegister_setReg s x v with }, rfl, rfl⟩

/-- A load of the bytes that a store without the test for overflow has just written completes and
extends the low bits of the value stored (20_memory.md R46). -/
theorem load_after_store {s t : State} {a : Word} {z : Size} {v : Word}
    (h : s.store a z v false = .next t) (w : Reg) (f : Nat → Word) :
    t.load w a z f = t.result w (f (v.toNat % 2 ^ (8 * sizeBytes z))) := by
  obtain ⟨hmapped, -, hcomplete⟩ := (store_eq_next _ _ _ _ _ _).1 h
  obtain rfl : t = (s.storeBytes a z v).advance := by
    simpa [complete_eq_next] using hcomplete
  have hread : (s.storeBytes a z v).advance.mem.readBytes (accessAddress a z) (sizeBytes z) =
      .ok (bytesOfWord (sizeBytes z) v) := by
    simpa using readBytes_writeBytes_bytesOfWord s.mem (accessAddress a z) v (j := 0)
      (Nat.zero_add (sizeBytes z)).le
  rw [← numberOfBytes_bytesOfWord]
  exact (load_eq_next _ _ _ _ _ _).2 ⟨hmapped, _, hread, rfl⟩

/-- The bits that an octabyte load extends are the whole value. -/
theorem zeroExtend_mod_octabyte (v : Word) :
    zeroExtend (v.toNat % 2 ^ (8 * sizeBytes .octa)) = v := by
  have hlt : v.toNat < 2 ^ (8 * sizeBytes .octa) := v.isLt
  rw [Nat.mod_eq_of_lt hlt, zeroExtend, u64_natCast, BitVec.ofNat_toNat, BitVec.setWidth_eq]

/-- An instruction that loads the octabyte just stored sets its register to the value stored. -/
theorem sets_of_load_octa_after_store {op : Byte} {i : Instr} {s t : State} {a v : Word} {w : Reg}
    (h : s.store a .octa v false = .next t) (hop : opcode i = op)
    (hexec : exec i t = t.load w a .octa zeroExtend) : Sets op i t w v := by
  refine sets_of_exec_eq_result hop ?_
  rw [hexec, load_after_store h, zeroExtend_mod_octabyte]

/-- Settles O19: a store has no destination, so it leaves the address registers (`Effect.reg_eq`);
the load then has the address of the store and reads the value back. -/
theorem storeThenLoad : Obligations.StoreThenLoad := by
  refine fun s t x y w => ⟨fun z h => ?_, fun z h => ?_⟩
  · have hreg (r : Reg) : t.reg r = s.reg r := (exec_next h).reg_eq nofun
    refine sets_of_load_octa_after_store h rfl ?_
    rw [← hreg y, ← hreg z]
    rfl
  · have hreg (r : Reg) : t.reg r = s.reg r := (exec_next h).reg_eq nofun
    refine sets_of_load_octa_after_store h rfl ?_
    rw [← hreg y]
    rfl

end Sys2Proof.Machine
end

section
/-! Decoding and encoding, the instructions that are refused by name, the assembler's names, and the
targets of branches: the statements of 30_encoding.md. -/

namespace Sys2Proof

/-! ## Decoding what was encoded -/

theorem decode_encode_of_fields {i : Instr} {op x y z : Byte}
    (hencode : encodeFields i = (op, x, y, z)) (hdecode : decodeFields op x y z = i) :
    decode (encode i) = i := by
  rw [encode, decode_tetraOfFields, hencode, hdecode]

/-- An instruction whose second operand is the wyde YZ: the decoder puts YZ together from the bytes that
the encoder takes apart (30_encoding.md R61). -/
theorem decode_encode_of_wyde {op x : Byte} {make : Wyde → Instr} {yz : Wyde}
    (hencode : encodeFields (make yz) = (op, x, highByte yz, lowByte yz))
    (hdecode : ∀ y z, decodeFields op x y z = make (y ++ z)) :
    decode (encode (make yz)) = make yz :=
  decode_encode_of_fields hencode (by rw [hdecode, highByte_append_lowByte])

/-- The round trip: every operand but a wyde is a whole field, which decodes to the operand by
definition. -/
theorem decode_encode (i : Instr) : decode (encode i) = i := by
  cases i with
  | bn | bnb | bz | bzb | bp | bpb | bod | bodb | bnn | bnnb | bnz | bnzb | bnp | bnpb | bev | bevb
  | pbn | pbnb | pbz | pbzb | pbp | pbpb | pbod | pbodb | pbnn | pbnnb | pbnz | pbnzb | pbnp | pbnpb
  | pbev | pbevb | seth | setmh | setml | setl | inch | incmh | incml | incl | orh | ormh | orml
  | orl | andnh | andnmh | andnml | andnl =>
    exact decode_encode_of_wyde rfl fun _ _ => rfl
  | _ => exact decode_encode_of_fields rfl rfl

/-- Settles O1: the bytes in memory decode as the tetrabyte does. -/
theorem decodeOfEncode : Obligations.DecodeOfEncode := by
  intro i _
  exact ⟨decode_encode i, by rw [encodeBytes, decodeBytes_tetraBytes, decode_encode]⟩

/-! ## Encoding what was decoded -/

/-- The operation code at a place of the chart (30_encoding.md R71). -/
def chartCode (quarter : Fin 4) (row column : Fin 8) : Byte :=
  BitVec.ofNat 8 (64 * quarter + 8 * row + column)

/-- An operation code stands at its own place of the chart. -/
theorem chartCode_place (op : Byte) :
    chartCode (chartQuarter op) (chartRow op) (chartColumn op) = op := by
  have hplace : 64 * (op.toNat / 64) + 8 * (op.toNat / 8 % 8) + op.toNat % 8 = op.toNat := by omega
  rw [chartCode, chartQuarter, chartRow, chartColumn, hplace, BitVec.ofNat_toNat, BitVec.setWidth_eq]

/-- The fields that the decoded instruction keeps: all, or OP alone if OP is out of scope (log 27). -/
def keptFields (op x y z : Byte) : Byte × Byte × Byte × Byte :=
  if outOfScope op then (op, 0, 0, 0) else (op, x, y, z)

theorem keptFields_of_inScope {op : Byte} (h : outOfScope op = false) (x y z : Byte) :
    keptFields op x y z = (op, x, y, z) := by
  simp [keptFields, h]

theorem keptFields_op (op x y z : Byte) : (keptFields op x y z).1 = op := by
  unfold keptFields
  split <;> rfl

/-- A wyde put together from two bytes is taken apart into them. -/
theorem wydeFields_append (op x y z : Byte) :
    (op, x, highByte (y ++ z), lowByte (y ++ z)) = (op, x, y, z) := by
  rw [highByte_append, lowByte_append]

theorem encodeFields_decodeQuarter00 (row column : Fin 8) (x y z : Byte) :
    encodeFields (decodeQuarter00 row column x y z) = keptFields (chartCode 0 row column) x y z := by
  fin_cases row <;> fin_cases column <;> rfl

/-- In this quarter the rows #40 to #58 are the branches, whose second operand is a wyde. -/
theorem encodeFields_decodeQuarter40 (row column : Fin 8) (x y z : Byte) :
    encodeFields (decodeQuarter40 row column x y z) = keptFields (chartCode 1 row column) x y z := by
  match row with
  | 0 | 1 | 2 | 3 => fin_cases column <;> exact wydeFields_append _ x y z
  | 4 | 5 | 6 | 7 => fin_cases column <;> rfl

theorem encodeFields_decodeQuarter80 (row column : Fin 8) (x y z : Byte) :
    encodeFields (decodeQuarter80 row column x y z) = keptFields (chartCode 2 row column) x y z := by
  fin_cases row <;> fin_cases column <;> rfl

/-- In this quarter the rows #E0 and #E8 are the wyde immediates. -/
theorem encodeFields_decodeQuarterC0 (row column : Fin 8) (x y z : Byte) :
    encodeFields (decodeQuarterC0 row column x y z) = keptFields (chartCode 3 row column) x y z := by
  match row with
  | 4 | 5 => fin_cases column <;> exact wydeFields_append _ x y z
  | 0 | 1 | 2 | 3 | 6 | 7 => fin_cases column <;> rfl

/-- What the decoder made of four fields, the encoder gives back as far as it was kept. -/
theorem encodeFields_decodeFields (op x y z : Byte) :
    encodeFields (decodeFields op x y z) = keptFields op x y z := by
  have hplace := chartCode_place op
  unfold decodeFields
  split
  · next h => rw [encodeFields_decodeQuarter00, ← h, hplace]
  · next h => rw [encodeFields_decodeQuarter40, ← h, hplace]
  · next h => rw [encodeFields_decodeQuarter80, ← h, hplace]
  · next h => rw [encodeFields_decodeQuarterC0, ← h, hplace]

/-- Out of scope or not, the decoded instruction has the word's operation code. -/
theorem opcode_decode (w : Tetra) : opcode (decode w) = opByte w := by
  rw [opcode, decode, encodeFields_decodeFields, keptFields_op]

theorem encode_decode_of_inScope {w : Tetra} (h : outOfScope (opByte w) = false) :
    encode (decode w) = w := by
  rw [encode, decode, encodeFields_decodeFields, keptFields_of_inScope h, tetraOfFields_fields]

/-- Settles O2, by the place of the operation code in the chart (`encodeFields_decodeFields`). -/
theorem encodeOfDecode : Obligations.EncodeOfDecode :=
  fun w => ⟨encode_decode_of_inScope, opcode_decode w⟩

/-! ## The names of the chart -/

/-- The family `Laws.Named`, for every instruction. -/
theorem mnemonic_eq_chartName (i : Instr) : mnemonic i = chartName (opcode i) := by
  cases i <;> rfl

theorem mnemonic_decode (w : Tetra) : mnemonic (decode w) = chartName (opByte w) := by
  rw [mnemonic_eq_chartName, opcode_decode]

/-- Settles O3: the chart names an instruction by its operation code, which is the word's. -/
theorem operationCodeSelectsTheRow : Obligations.OperationCodeSelectsTheRow := by
  intro w v
  refine ⟨mnemonic_decode w, fun hop => ?_⟩
  rw [mnemonic_decode, mnemonic_decode, hop]

/-- Settles O4, by running the decoder on each word. -/
theorem writtenWordsDecode : Obligations.WrittenWordsDecode := by
  unfold Obligations.WrittenWordsDecode
  decide

end Sys2Proof

namespace Sys2Proof.Machine

/-! ## The operation codes out of scope -/

/-- An instruction out of scope is refused by its own operation code and name (30_encoding.md R75). -/
theorem exec_of_outOfScope {i : Instr} (h : outOfScope (opcode i) = true) (s : State) :
    exec i s = .refused (.opcodeNotSpecified (opcode i) (mnemonic i)) := by
  cases i with
  | trap | fcmp | fun_ | feql | fadd | fix | fsub | fixu | flot | floti | flotu | flotui | sflot
  | sfloti | sflotu | sflotui | fmul | fcmpe | fune | feqle | fdiv | fsqrt | frem | fint | mul
  | muli | mulu | mului | div | divi | divu | divui | ldsf | ldsfi | cswap | cswapi | ldunc
  | ldunci | ldvts | ldvtsi | preld | preldi | prego | pregoi | go | goi | stsf | stsfi | stunc
  | stunci | syncd | syncdi | prest | presti | syncid | syncidi | pushgo | pushgoi | jmp | jmpb
  | pushj | pushjb | geta | getab | put | puti | pop | resume | save | unsave | sync | swym | get
  | trip => rfl
  | _ => cases h

/-- Settles O8: the entries are instructions out of scope with their own operation code and name. -/
theorem unspecifiedCodesAreRefused : Obligations.UnspecifiedCodesAreRefused := by
  intro e he
  obtain ⟨hscope, hop, hname⟩ :
      outOfScope (opcode e.1) = true ∧ opcode e.1 = e.2.1 ∧ mnemonic e.1 = e.2.2 := by
    revert e
    decide
  refine ⟨hop, fun s => ?_⟩
  rw [exec_of_outOfScope hscope, hop, hname]

/-! ## The assembler's names -/

/-- OR with the constant zero copies a register (30_encoding.md R80). -/
theorem exec_assembleSet (x y : Reg) (s : State) :
    exec (assembleSet x y) s = s.result x (s.reg y) := by
  have hor : exec (assembleSet x y) s = s.result x (s.reg y ||| 0#64) := rfl
  rw [hor, BitVec.or_zero]

/-- Settles O5: SET is an ORI (`exec_assembleSet`), and the rest is what the names abbreviate. -/
theorem assemblerNames : Obligations.AssemblerNames :=
  ⟨fun x y => ⟨rfl, fun s => sets_of_exec_eq_result rfl (exec_assembleSet x y s)⟩,
    fun _ _ _ => ⟨rfl, rfl⟩, fun _ _ _ => ⟨rfl, rfl⟩⟩

/-! ## The targets of branches -/

theorem branchOffset_forward_ofInt {k : Int} (hlow : 0 ≤ k) (hhigh : k < 2 ^ 16) :
    branchOffset .forward (BitVec.ofInt 16 k) = k := by
  rw [branchOffset, BitVec.toNat_ofInt]
  omega

theorem branchOffset_backward_ofInt {k : Int} (hlow : -(2 ^ 16) ≤ k) (hhigh : k < 0) :
    branchOffset .backward (BitVec.ofInt 16 (2 ^ 16 + k)) = k := by
  rw [branchOffset, BitVec.toNat_ofInt]
  omega

/-- The offsets of the two directions together are -65536 to 65535 (30_encoding.md R66). -/
theorem exists_branchOffset_eq {k : Int} (hlow : -65536 ≤ k) (hhigh : k ≤ 65535) :
    ∃ d yz, branchOffset d yz = k := by
  by_cases hneg : k < 0
  · exact ⟨.backward, _, branchOffset_backward_ofInt hlow hneg⟩
  · exact ⟨.forward, _, branchOffset_forward_ofInt (by omega) (by omega)⟩

/-- Settles O47: the offsets are exactly the k of the statement. -/
theorem branchReach : Obligations.BranchReach := by
  intro pc l
  constructor
  · rintro ⟨d, yz, rfl⟩
    obtain ⟨hlow, hhigh⟩ := branchOffset_range d yz
    exact ⟨branchOffset d yz, hlow, hhigh, branchTarget_eq pc d yz⟩
  · rintro ⟨k, hlow, hhigh, rfl⟩
    obtain ⟨d, yz, rfl⟩ := exists_branchOffset_eq hlow hhigh
    exact ⟨d, yz, branchTarget_eq pc d yz⟩

/-! ## An assembled branch -/

/-- The forward instruction or the backward one. -/
def ofDirection (forward backward : Reg → Wyde → Instr) : Direction → Reg → Wyde → Instr
  | .forward => forward
  | .backward => backward

/-- The assembler answers the instruction whose offset leads from `loc` to `l`, if there is one
(30_encoding.md R82; log 26). -/
theorem assembleBranch_eq_some (forward backward : Reg → Wyde → Instr) (x : Reg) (loc l : Word)
    (i : Instr) : assembleBranch forward backward x loc l = some i ↔
      ∃ d yz, (l.toNat : Int) - loc.toNat = 4 * branchOffset d yz ∧
        i = ofDirection forward backward d x yz := by
  constructor
  · intro h
    unfold assembleBranch at h
    dsimp only at h
    split at h
    · cases h
    · split at h <;> split at h <;> cases h
      · next hlow hhigh =>
        exact ⟨.forward, _, by rw [branchOffset_forward_ofInt hlow hhigh]; omega, rfl⟩
      · next hneg hlow =>
        exact ⟨.backward, _, by rw [branchOffset_backward_ofInt hlow (by omega)]; omega, rfl⟩
  · rintro ⟨d, yz, hd, rfl⟩
    have hquotient : ((l.toNat : Int) - loc.toNat) / 4 = branchOffset d yz := by omega
    have hmod : ((l.toNat : Int) - loc.toNat) % 4 = 0 := by omega
    have hlt : yz.toNat < 65536 := yz.isLt
    cases d with
    | forward => simp [assembleBranch, hquotient, hmod, branchOffset, ofDirection, hlt]
    | backward => simp [assembleBranch, hquotient, hmod, branchOffset, ofDirection, hlt.not_ge]

/-- A branch changes nothing but `pc`. -/
theorem goes_of_exec_eq_branch {op : Byte} {i : Instr} {s : State} {c : Condition} {d : Direction}
    {x : Reg} {yz : Wyde} (hop : opcode i = op) (hexec : exec i s = s.branch c d x yz) :
    Goes op i s (if conditionHolds c (s.reg x) then branchTarget s.pc d yz else s.pc + 4) :=
  ⟨hop, _, hexec.trans (branch_eq s c d x yz), ⟨fun _ => rfl, rfl, fun _ => rfl, rfl, rfl⟩, rfl⟩

theorem conditionHolds_nonzero (v : Word) : conditionHolds .nonzero v = true ↔ v ≠ 0 := by
  simp [conditionHolds]

/-- An offset that leads from `loc` to `l` without wrapping makes `l` the target. -/
theorem branchTarget_of_offset {loc l : Word} {d : Direction} {yz : Wyde}
    (h : (l.toNat : Int) - loc.toNat = 4 * branchOffset d yz) : branchTarget loc d yz = l := by
  rw [branchTarget, ← h, add_sub_cancel, u64_natCast, BitVec.ofNat_toNat, BitVec.setWidth_eq]

theorem exec_ofDirection_bnz (d : Direction) (x : Reg) (yz : Wyde) (s : State) :
    exec (ofDirection .bnz .bnzb d x yz) s = s.branch .nonzero d x yz := by
  cases d <;> rfl

/-- Settles O48: the assembler finds the offset if one leads to `l` (`assembleBranch_eq_some`), and that
offset then makes `l` the target. -/
theorem assembledBranchReachesItsTarget : Obligations.AssembledBranchReachesItsTarget := by
  intro s x l
  simp only [assembleBranch_eq_some]
  refine ⟨⟨?_, ?_⟩, ?_⟩
  · rintro ⟨-, d, yz, hd, -⟩
    obtain ⟨hlow, hhigh⟩ := branchOffset_range d yz
    omega
  · rintro ⟨hmod, hlow, hhigh⟩
    obtain ⟨d, yz, hd⟩ := exists_branchOffset_eq (k := ((l.toNat : Int) - s.pc.toNat) / 4)
      (by omega) (by omega)
    exact ⟨_, d, yz, by omega, rfl⟩
  · rintro _ ⟨d, yz, hd, rfl⟩ hx
    have hgoes := goes_of_exec_eq_branch rfl (exec_ofDirection_bnz d x yz s)
    rwa [if_pos ((conditionHolds_nonzero _).2 hx), branchTarget_of_offset hd] at hgoes

end Sys2Proof.Machine
end

section
/-! Loads and stores, the test for overflow that the checked stores and the signed instructions make,
and the partners that make none: the statements of 40_load_store.md. -/

namespace Sys2Proof.Machine

section
variable {opRegister opImmediate : Byte} {register : Reg → Reg → Reg → Instr}
  {immediateForm : Reg → Reg → Byte → Instr}

/-! ## The two forms of a mnemonic -/

/-- The instruction has operation code op, and `meaning` is what `exec` answers for it, from the
registers X and Y and the value of the second operand. -/
def Means (meaning : State → Reg → Reg → Word → Result) (op : Byte) (i : Instr) (s : State)
    (x y : Reg) (z : Word) : Prop :=
  opcode i = op ∧ exec i s = meaning s x y z

/-- A claim that follows from what `exec` answers holds of both forms of a mnemonic whose forms share
their meaning. -/
theorem bothForms_of_means {meaning : State → Reg → Reg → Word → Result}
    {claim : Byte → Instr → State → Reg → Reg → Word → Prop}
    (h : BothForms opRegister opImmediate register immediateForm (Means meaning))
    (hclaim : ∀ op i s x y z, Means meaning op i s x y z → claim op i s x y z) :
    BothForms opRegister opImmediate register immediateForm claim := by
  intro s x y
  obtain ⟨hregister, himmediate⟩ := h s x y
  exact ⟨fun z => hclaim _ _ _ _ _ _ (hregister z), fun z => hclaim _ _ _ _ _ _ (himmediate z)⟩

/-! ## The test for overflow -/

theorem exceedsSigned_iff (n : Nat) (v : Word) :
    exceedsSigned n v = true ↔ v.toInt < -(2 ^ (n - 1)) ∨ 2 ^ (n - 1) - 1 < v.toInt := by
  rw [exceedsSigned, Bool.or_eq_true, decide_eq_true_iff, decide_eq_true_iff, signed]

/-- An instruction whose writes lead from `s` to `u`, and whose test then gives `o`, signals overflow
exactly if the test finds it (60_exceptions.md R262, R263). -/
theorem signals_of_exec_eq_complete {op : Byte} {i : Instr} {s u : State} {o : Bool}
    {writes : State → Prop} {overflow : Prop} (hop : opcode i = op) (hexec : exec i s = u.complete o)
    (ho : o = true ↔ overflow) (hovf : u.ovf = s.ovf) (hpc : u.pc = s.pc) (henv : u.env = s.env)
    (hwrites : ∀ b w, writes { u with ovf := b, pc := w }) : Signals op i s writes overflow := by
  rw [← ho, Signals, hexec, ← henv, ← hovf, ← hpc]
  refine ⟨hop, fun hno => ?_, fun hyes hrecord => ?_, fun hyes hfault => ?_⟩
  · exact ⟨_, (complete_eq_next _ _ _).2 (.inl ⟨by simpa using hno, rfl⟩), hwrites _ _, rfl, rfl⟩
  · exact ⟨_, (complete_eq_next _ _ _).2 (.inr ⟨hyes, hrecord, rfl⟩), hwrites _ _, rfl, rfl⟩
  · exact ⟨u, (complete_eq_fault _ _ _).2 ⟨hyes, hfault, rfl⟩, hwrites u.ovf u.pc, rfl, rfl⟩

/-- Under `fault`, the end of an instruction is the exception exactly if the test finds overflow. -/
theorem exists_complete_eq_integerOverflow_iff {u : State} (h : u.env.overflowResponse = .fault)
    (o : Bool) : (∃ t, u.complete o = .fault (.integerOverflow u.pc t)) ↔ o = true := by
  simp [complete_eq_fault, h]

/-- Without the test an instruction ends as with it, but for what the test does: it leaves `ovf` as it
was, and it goes on from the state in which the exception would have ended the run. -/
theorem complete_false_of_complete (u : State) (o : Bool) (t : State) :
    (u.complete o = .next t → u.complete false = .next { t with ovf := u.ovf }) ∧
    (∀ l, u.complete o = .fault (.integerOverflow l t) → u.complete false = .next t.advance) := by
  refine ⟨fun h => ?_, fun l h => ?_⟩
  · rcases (complete_eq_next _ _ _).1 h with ⟨-, rfl⟩ | ⟨-, -, rfl⟩ <;> rfl
  · obtain ⟨-, -, hf⟩ := (complete_eq_fault _ _ _).1 h
    cases hf
    rfl

/-! ## Loads -/

/-- A load of mapped bytes that hold values writes what it makes of their big-endian number. -/
theorem load_of_holds {s : State} {a : Word} {z : Size} {b : Nat → Byte}
    (hm : Mapped s (accessAddress a z) (sizeBytes z))
    (hb : Holds s (accessAddress a z) (sizeBytes z) b) (x : Reg) (f : Nat → Word) :
    s.load x a z f = s.result x (f (bigEndian b (sizeBytes z))) := by
  rw [← numberOfBytes_map_range]
  exact (load_eq_next _ _ _ _ _ _).2 ⟨(mappedRange_iff _ _ _).2 hm, _, readBytes_of_holds hb, rfl⟩

/-- The number that the bytes of an access hold has no more bits than they have. -/
theorem bigEndian_sizeBytes_lt (b : Nat → Byte) (z : Size) :
    bigEndian b (sizeBytes z) < 2 ^ (8 * sizeBytes z) := by
  rw [pow_mul]
  exact bigEndian_lt b _

/-- Both forms of a load whose extension gives every number that fits its bytes the value asked for. -/
theorem bothForms_loadsAs {size : Size} {value : Nat → Word → Prop} {extend : Nat → Word}
    (h : BothForms opRegister opImmediate register immediateForm
      (Means fun s x y z => s.load x (effectiveAddress (s.reg y) z) size extend))
    (hvalue : ∀ n, n < 2 ^ (8 * sizeBytes size) → value n (extend n)) :
    BothForms opRegister opImmediate register immediateForm (LoadsAs size value) := by
  refine bothForms_of_means h ?_
  rintro op i s x y z ⟨hop, hexec⟩ b hm hb
  exact ⟨_, hvalue _ (bigEndian_sizeBytes_lt b size),
    sets_of_exec_eq_result hop (hexec.trans (load_of_holds hm hb x extend))⟩

/-- The signed reading of n bits lies in the range of n bits (00_scope.md R8). -/
theorem signedReading_range {n v : Nat} (hn : 0 < n) (hv : v < 2 ^ n) :
    -(2 ^ (n - 1)) ≤ signedReading n v ∧ signedReading n v < 2 ^ (n - 1) := by
  have hhalf : (2 : Int) ^ n = 2 * 2 ^ (n - 1) := by rw [← pow_succ', Nat.sub_add_cancel hn]
  have hlt : (v : Int) < 2 ^ n := by exact_mod_cast hv
  have hiff : v < 2 ^ (n - 1) ↔ (v : Int) < 2 ^ (n - 1) := by exact_mod_cast Iff.rfl
  simp only [signedReading, hiff]
  split <;> omega

/-- Sign extension keeps the signed reading (00_scope.md R8, R9). -/
theorem toInt_signExtend {n v : Nat} (hpos : 0 < n) (hn : n ≤ 64) (hv : v < 2 ^ n) :
    (signExtend n v).toInt = signedReading n v := by
  obtain ⟨hlow, hhigh⟩ := signedReading_range hpos hv
  have htop : (2 : Int) ^ (n - 1) ≤ 2 ^ 63 := pow_le_pow_right₀ (by decide) (by omega)
  exact signed_u64 _ (by omega) (by omega)

/-- Zero extension keeps the number. -/
theorem toNat_zeroExtend {v : Nat} (hv : v < 2 ^ 64) : (zeroExtend v).toNat = v := by
  rw [zeroExtend, toNat_u64_natCast, Nat.mod_eq_of_lt hv]

/-- A tetrabyte in the high half is its number times 2^32 (40_load_store.md R99). -/
theorem toNat_highTetra {v : Nat} (hv : v < 2 ^ 32) : (highTetra v).toNat = v * 2 ^ 32 := by
  have hcast : (v : Int) * 2 ^ 32 = (v * 2 ^ 32 : Nat) := by push_cast; rfl
  rw [highTetra, hcast, toNat_u64_natCast, Nat.mod_eq_of_lt (by omega)]

/-! ## Stores -/

/-- The bytes that a claim sees of a value are the ones that a store writes. -/
theorem byteOfValue_eq_extractLsb' (n : Nat) (v : Word) :
    byteOfValue n v = fun k => v.extractLsb' (8 * (n - 1 - k)) 8 := by
  funext k
  have hpow : 2 ^ (8 * (n - 1 - k)) = 256 ^ (n - 1 - k) := pow_mul 2 8 _
  rw [byteOfValue, BitVec.extractLsb', Nat.shiftRight_eq_div_pow, hpow]

/-- A store writes the bytes that a claim sees; whatever becomes of `ovf` and `pc`, nothing else
changes. -/
theorem writesMemory_byteOfValue (s : State) (a : Word) (z : Size) (v : Word) (b : Bool) (w : Word) :
    WritesMemory s { s.storeBytes a z v with ovf := b, pc := w } (accessAddress a z) (sizeBytes z)
      (byteOfValue (sizeBytes z) v) := by
  rw [byteOfValue_eq_extractLsb']
  exact { writesMemory_storeBytes s a z v with }

/-- `store_of_mapped` in the words of the statements. -/
theorem store_of_clear {s : State} {a : Word} {z : Size}
    (hm : Mapped s (accessAddress a z) (sizeBytes z))
    (ht : ¬ MeetsText s (accessAddress a z) (sizeBytes z)) (v : Word) (o : Bool) :
    s.store a z v o = (s.storeBytes a z v).complete o := by
  rw [← meetsText_iff, Bool.not_eq_true] at ht
  exact store_of_mapped s a z v o ((mappedRange_iff _ _ _).2 hm) ht

/-- An instruction that stores without the test for overflow. -/
theorem storesValue_of_exec {op : Byte} {i : Instr} {s : State} {size : Size} {v y z : Word}
    (hop : opcode i = op) (hexec : exec i s = s.store (effectiveAddress y z) size v false) :
    StoresValue size op i s v y z := by
  intro hm ht
  exact ⟨hop, _, hexec.trans (store_of_clear hm ht v false),
    writesMemory_byteOfValue s _ size v s.ovf (s.pc + 4), rfl, rfl⟩

/-- Both forms of a store of a value made of `$X`, without the test for overflow. -/
theorem bothForms_storesValue {size : Size} {value : Word → Word}
    (h : BothForms opRegister opImmediate register immediateForm
      (Means fun s x y z => s.store (effectiveAddress (s.reg y) z) size (value (s.reg x)) false)) :
    BothForms opRegister opImmediate register immediateForm
      fun op i s x y z => StoresValue size op i s (value (s.reg x)) (s.reg y) z :=
  bothForms_of_means h fun _ _ _ _ _ _ ⟨hop, hexec⟩ => storesValue_of_exec hop hexec

/-- Both forms of a store of `$X` that tests whether its signed value fits the bytes stored. -/
theorem bothForms_storesChecked {size : Size}
    (h : BothForms opRegister opImmediate register immediateForm (Means fun s x y z =>
      s.store (effectiveAddress (s.reg y) z) size (s.reg x)
        (exceedsSigned (8 * sizeBytes size) (s.reg x)))) :
    BothForms opRegister opImmediate register immediateForm (StoresChecked size) := by
  refine bothForms_of_means h ?_
  rintro op i s x y z ⟨hop, hexec⟩ hm ht
  exact signals_of_exec_eq_complete hop (hexec.trans (store_of_clear hm ht _ _))
    (exceedsSigned_iff _ _) rfl rfl rfl (writesMemory_byteOfValue s _ size _)

end

/-! ## The statements on loads and stores -/

/-- Settles O9: the load extends by sign, which keeps the signed reading of the number. -/
theorem signedLoads : Obligations.SignedLoads := by
  refine ⟨bothForms_loadsAs ?_ fun _ => toInt_signExtend (by decide) (by decide),
    bothForms_loadsAs ?_ fun _ => toInt_signExtend (by decide) (by decide),
    bothForms_loadsAs ?_ fun _ => toInt_signExtend (by decide) (by decide)⟩
  all_goals exact fun _ _ _ => ⟨fun _ => ⟨rfl, rfl⟩, fun _ => ⟨rfl, rfl⟩⟩

/-- Settles O10: the load extends by zeros, which keeps the number. -/
theorem unsignedLoads : Obligations.UnsignedLoads := by
  refine ⟨bothForms_loadsAs ?_ fun _ h => toNat_zeroExtend (h.trans (by decide)),
    bothForms_loadsAs ?_ fun _ h => toNat_zeroExtend (h.trans (by decide)),
    bothForms_loadsAs ?_ fun _ h => toNat_zeroExtend (h.trans (by decide))⟩
  all_goals exact fun _ _ _ => ⟨fun _ => ⟨rfl, rfl⟩, fun _ => ⟨rfl, rfl⟩⟩

/-- Settles O11: an octabyte is its own extension, and LDHT moves its tetrabyte up. -/
theorem octaAndHighTetraLoads : Obligations.OctaAndHighTetraLoads := by
  refine ⟨bothForms_loadsAs ?_ fun _ => toNat_zeroExtend,
    bothForms_loadsAs ?_ fun _ => toNat_zeroExtend,
    bothForms_loadsAs ?_ fun _ => toNat_highTetra⟩
  all_goals exact fun _ _ _ => ⟨fun _ => ⟨rfl, rfl⟩, fun _ => ⟨rfl, rfl⟩⟩

/-- Settles O13: each is a store of `$X` without the test. -/
theorem uncheckedStores : Obligations.UncheckedStores := by
  refine ⟨bothForms_storesValue (value := id) ?_, bothForms_storesValue (value := id) ?_,
    bothForms_storesValue (value := id) ?_, bothForms_storesValue (value := id) ?_,
    bothForms_storesValue (value := id) ?_⟩
  all_goals exact fun _ _ _ => ⟨fun _ => ⟨rfl, rfl⟩, fun _ => ⟨rfl, rfl⟩⟩

/-- Settles O14: STCO is a store of the constant, which reads no `$X`, and STHT one of the high half
of `$X`. -/
theorem constantAndHighTetraStores : Obligations.ConstantAndHighTetraStores :=
  ⟨fun _ _ _ => ⟨fun _ => storesValue_of_exec rfl rfl, fun _ => storesValue_of_exec rfl rfl⟩,
    bothForms_storesValue (value := (· >>> 32))
      fun _ _ _ => ⟨fun _ => ⟨rfl, rfl⟩, fun _ => ⟨rfl, rfl⟩⟩⟩

/-- Settles O15: the write comes first, and then the test of `$X` against the range of as many bits as
the bytes stored. -/
theorem checkedStores : Obligations.CheckedStores := by
  refine ⟨bothForms_storesChecked ?_, bothForms_storesChecked ?_, bothForms_storesChecked ?_⟩
  all_goals exact fun _ _ _ => ⟨fun _ => ⟨rfl, rfl⟩, fun _ => ⟨rfl, rfl⟩⟩

/-! ## The low 64 bits do not depend on how the operands are read -/

/-- The low 64 bits of the unsigned reading of a value are that value, as those of its signed reading
are (`u64_signed`). -/
@[simp] theorem u64_toNat (v : Word) : u64 (v.toNat : Int) = v := by
  rw [u64_natCast, BitVec.ofNat_toNat, BitVec.setWidth_eq]

theorem u64_add (i j : Int) : u64 (i + j) = u64 i + u64 j := BitVec.ofInt_add i j

theorem u64_sub (i j : Int) : u64 (i - j) = u64 i - u64 j := by
  rw [eq_sub_iff_add_eq, ← u64_add, Int.sub_add_cancel]

theorem u64_mul (i j : Int) : u64 (i * j) = u64 i * u64 j := BitVec.ofInt_mul i j

/-- ADD and ADDU write the same sum. -/
theorem u64_signed_add_signed (y z : Word) :
    u64 (signed y + signed z) = u64 (y.toNat + z.toNat) := by
  simp [u64_add]

/-- SUB and SUBU write the same difference. -/
theorem u64_signed_sub_signed (y z : Word) :
    u64 (signed y - signed z) = u64 (y.toNat - z.toNat : Int) := by
  simp [u64_sub]

/-- NEG and NEGU write the same difference. -/
theorem u64_toNat_sub_signed (y z : Word) :
    u64 (y.toNat - signed z) = u64 (y.toNat - z.toNat : Int) := by
  simp [u64_sub]

/-- SL and SLU write the same product. -/
theorem u64_signed_mul_pow (y n : Word) :
    u64 (signed y * 2 ^ shiftCount n) = shiftedLeftUnsigned y n := by
  simp [u64_mul, shiftedLeftUnsigned]

/-! ## The partners that make no test -/

/-- A store with the test, and the same store without it. -/
theorem sameWithoutTest_of_store {tested untested : Instr} {address value : State → Word}
    {size : Size} {overflow : State → Bool}
    (ht : ∀ s, exec tested s = s.store (address s) size (value s) (overflow s))
    (hu : ∀ s, exec untested s = s.store (address s) size (value s) false) :
    SameWithoutTest tested untested := by
  intro s t
  obtain ⟨hnext, hfault⟩ :=
    complete_false_of_complete (s.storeBytes (address s) size (value s)) (overflow s) t
  rw [ht, hu]
  refine ⟨fun h => ?_, fun l h => ?_⟩
  · obtain ⟨hm, hx, h⟩ := (store_eq_next _ _ _ _ _ _).1 h
    exact (store_eq_next _ _ _ _ _ _).2 ⟨hm, hx, hnext h⟩
  · obtain ⟨-, hf⟩ | ⟨hm, hx, h⟩ := (store_eq_fault _ _ _ _ _ _).1 h
    · cases hf
    · exact (store_eq_next _ _ _ _ _ _).2 ⟨hm, hx, hfault l h⟩

/-- An instruction that writes a register and makes the test, and one that writes the same value and
makes none. -/
theorem sameWithoutTest_of_register {tested untested : Instr} {x : Reg}
    {value unsigned : State → Word} {overflow : State → Bool}
    (ht : ∀ s, exec tested s = (s.setReg x (value s)).complete (overflow s))
    (hu : ∀ s, exec untested s = s.result x (unsigned s)) (hvalue : ∀ s, value s = unsigned s) :
    SameWithoutTest tested untested := by
  intro s t
  rw [ht, hu, ← hvalue]
  exact complete_false_of_complete (s.setReg x (value s)) (overflow s) t

/-- Settles O23: the low 64 bits that a signed instruction writes do not depend on how its operands are
read, and a checked store writes the bytes of `$X` before its test. -/
theorem unsignedPartnersMakeNoTest : Obligations.UnsignedPartnersMakeNoTest := by
  refine ⟨fun x y z => ⟨?add, ?sub, ?sl, ?stb, ?stw, ?stt⟩,
    fun x y z => ⟨?addi, ?subi, ?sli, ?stbi, ?stwi, ?stti⟩, fun x y z => ?neg, fun x y z => ?negi⟩
  case add | addi =>
    exact sameWithoutTest_of_register (fun _ => rfl) (fun _ => rfl) fun _ => u64_signed_add_signed _ _
  case sub | subi =>
    exact sameWithoutTest_of_register (fun _ => rfl) (fun _ => rfl) fun _ => u64_signed_sub_signed _ _
  case sl | sli =>
    exact sameWithoutTest_of_register (fun _ => rfl) (fun _ => rfl) fun _ => u64_signed_mul_pow _ _
  case neg | negi =>
    exact sameWithoutTest_of_register (fun _ => rfl) (fun _ => rfl) fun _ => u64_toNat_sub_signed _ _
  case stb | stw | stt | stbi | stwi | stti =>
    exact sameWithoutTest_of_store (fun _ => rfl) (fun _ => rfl)

/-! ## High tetrabytes -/

/-- A tetrabyte in the high half reads as its own signed reading times 2^32. -/
theorem signed_append_zero (a : Tetra) : signed (a ++ (0 : Tetra)) = 2 ^ 32 * a.toInt :=
  BitVec.toInt_append_zero

section
variable {s : State} (x y z : Reg) (h : s.env.overflowResponse = .fault)
include h

/-- Under `fault`, ADD ends in the exception exactly if the exact sum is out of range
(41_add_subtract.md R120). -/
theorem exec_add_overflow_iff :
    (∃ t, exec (.add x y z) s = .fault (.integerOverflow s.pc t)) ↔
      2 ^ 63 ≤ signed (s.reg y) + signed (s.reg z) ∨
        signed (s.reg y) + signed (s.reg z) < -(2 ^ 63) :=
  (exists_complete_eq_integerOverflow_iff (u := s.setReg x _) h _).trans (overflows_iff _)

/-- Under `fault`, SUB ends in the exception exactly if the exact difference is out of range
(41_add_subtract.md R126). -/
theorem exec_sub_overflow_iff :
    (∃ t, exec (.sub x y z) s = .fault (.integerOverflow s.pc t)) ↔
      2 ^ 63 ≤ signed (s.reg y) - signed (s.reg z) ∨
        signed (s.reg y) - signed (s.reg z) < -(2 ^ 63) :=
  (exists_complete_eq_integerOverflow_iff (u := s.setReg x _) h _).trans (overflows_iff _)

end

/-- Settles O26: both operands are multiples of 2^32, so the exact result and the ends of the range
differ from those of the 32-bit operation by that factor. -/
theorem highTetraOverflow : Obligations.HighTetraOverflow := by
  intro s x y z a b h hy hz
  rw [exec_add_overflow_iff x y z h, exec_sub_overflow_iff x y z h, hy, hz, signed_append_zero,
    signed_append_zero]
  constructor <;> omega

end Sys2Proof.Machine
end

section
/-! Adding and subtracting: the statements of 41_add_subtract.md. -/

namespace Sys2Proof.Machine

/-! ## Instructions that set a register -/

/-- An instruction that writes a register and then makes the test for overflow, which gives `o`. -/
theorem signals_of_exec_eq_setReg_complete {op : Byte} {i : Instr} {s : State} {x : Reg} {v : Word}
    {o : Bool} {overflow : Prop} (hop : opcode i = op) (hexec : exec i s = (s.setReg x v).complete o)
    (ho : o = true ↔ overflow) : Signals op i s (fun t => WritesRegister s t x v) overflow :=
  signals_of_exec_eq_complete hop hexec ho rfl rfl rfl
    fun _ _ => { writesRegister_setReg s x v with }

section
variable {opRegister opImmediate : Byte} {register : Reg → Reg → Reg → Instr}
  {immediateForm : Reg → Reg → Byte → Instr}

/-- Both forms of a mnemonic that writes the low 64 bits of an exact integer and tests whether it is in
the range of a signed octabyte (41_add_subtract.md R119). -/
theorem bothForms_computesSigned {value : Word → Word → Int}
    (h : BothForms opRegister opImmediate register immediateForm
      (Means fun s x y z => s.signedResult x (value (s.reg y) z))) :
    BothForms opRegister opImmediate register immediateForm (ComputesSigned value) :=
  bothForms_of_means h fun _ _ _ _ _ _ ⟨hop, hexec⟩ =>
    signals_of_exec_eq_setReg_complete hop hexec (overflows_iff _)

/-- Both forms of a mnemonic that writes a function of `$Y` and the second operand. -/
theorem bothForms_computes {f : Word → Word → Word} {value : Word → Word → Word → Prop}
    (h : BothForms opRegister opImmediate register immediateForm
      (Means fun s x y z => s.result x (f (s.reg y) z)))
    (hvalue : ∀ y z, value y z (f y z)) :
    BothForms opRegister opImmediate register immediateForm (Computes value) :=
  bothForms_of_means h fun _ _ _ _ _ _ ⟨hop, hexec⟩ =>
    ⟨_, hvalue _ _, sets_of_exec_eq_result hop hexec⟩

end

/-! ## The low 64 bits of an exact result -/

theorem toNat_u64 (i : Int) : ((u64 i).toNat : Int) = i % 2 ^ 64 := by
  rw [u64, BitVec.toNat_ofInt]
  omega

theorem toNat_u64_add (y z : Word) :
    (u64 (y.toNat + z.toNat)).toNat = (y.toNat + z.toNat) % 2 ^ 64 :=
  toNat_u64_natCast (y.toNat + z.toNat)

/-- A multiple of one value plus another (41_add_subtract.md R122 to R125). -/
theorem toNat_u64_mul_add (k : Nat) (y z : Word) :
    (u64 (k * y.toNat + z.toNat)).toNat = (k * y.toNat + z.toNat) % 2 ^ 64 := by
  exact_mod_cast toNat_u64_natCast (k * y.toNat + z.toNat)

/-! ## Overflow seen in the sign bits -/

/-- The test of ADD finds overflow exactly if the operands agree in sign and the sum does not. -/
theorem overflows_add_iff_msb (y z : Word) :
    overflows (signed y + signed z) = true ↔ y.msb = z.msb ∧ (y + z).msb ≠ y.msb := by
  have htest : overflows (signed y + signed z) = y.saddOverflow z := rfl
  rw [htest, BitVec.saddOverflow_eq]
  simp

/-- The test of SUB finds overflow exactly if the operands differ in sign and the difference does not
have the sign of the first. -/
theorem overflows_sub_iff_msb (y z : Word) :
    overflows (signed y - signed z) = true ↔ y.msb ≠ z.msb ∧ (y - z).msb ≠ y.msb := by
  have htest : overflows (signed y - signed z) = y.ssubOverflow z := rfl
  rw [htest, BitVec.ssubOverflow_eq]
  cases y.msb <;> simp

/-- Settles O24: under `fault` the exception is the test of the exact result
(`exec_add_overflow_iff`, `exec_sub_overflow_iff`), and the sign bits show what that test finds. -/
theorem addOverflowBySigns : Obligations.AddOverflowBySigns := by
  intro s x y z h
  rw [exec_add_overflow_iff x y z h, exec_sub_overflow_iff x y z h, ← overflows_iff, ← overflows_iff]
  exact ⟨overflows_add_iff_msb _ _, overflows_sub_iff_msb _ _⟩

/-! ## The carry of an unsigned sum -/

/-- A comparison answers -1 exactly if the first number is less (45_compare_conditional.md R201). -/
theorem toInt_compareInts_eq_neg_one_iff (a b : Int) : (compareInts a b).toInt = -1 ↔ a < b := by
  obtain h | rfl | h := lt_trichotomy a b
  · have hvalue : compareInts a b = u64 (-1) := by simp [compareInts, h, h.not_gt]
    exact iff_of_true (hvalue ▸ by decide) h
  · have hvalue : compareInts a a = u64 0 := by simp [compareInts]
    exact iff_of_false (hvalue ▸ by decide) (lt_irrefl a)
  · have hvalue : compareInts a b = u64 1 := by simp [compareInts, h, h.not_gt]
    exact iff_of_false (hvalue ▸ by decide) h.not_gt

/-- The sum modulo 2^64 is less than its first summand exactly if it wrapped. -/
theorem toNat_u64_add_lt_iff (y z : Word) :
    (u64 (y.toNat + z.toNat)).toNat < y.toNat ↔ 2 ^ 64 ≤ y.toNat + z.toNat := by
  have hy := y.isLt
  have hz := z.isLt
  rw [toNat_u64_add]
  omega

/-- Settles O25: CMPU finds the sum in `$X` and, as X is not Y, the first summand still in `$Y`. -/
theorem carryByComparison : Obligations.CarryByComparison := by
  intro s x y z w hxy
  refine ⟨_, _, rfl, rfl, ?_⟩
  rw [reg_advance, reg_setReg_same, toInt_compareInts_eq_neg_one_iff, Int.ofNat_lt, reg_advance,
    reg_advance, reg_setReg_same, reg_setReg_other _ _ hxy.symm, toNat_u64_add_lt_iff]

/-! ## Negation -/

theorem negOverflows_iff (t : Int) : negOverflows t = true ↔ 2 ^ 63 - 1 < t := by
  rw [negOverflows, decide_eq_true_iff]

section
variable (s : State) (x : Reg) (y : Byte)

/-- NEG subtracts `$Z` from the constant Y (41_add_subtract.md R128). -/
theorem exec_neg (z : Reg) :
    exec (.neg x y z) s = s.negate x (y.toNat - signed (s.reg z)) := by
  rw [← toNat_immediate y]
  rfl

/-- A difference of two constants is at most 255, so NEGI passes the test of NEG. -/
theorem exec_negi (z : Byte) : exec (.negi x y z) s = s.result x (u64 (y.toNat - z.toNat : Int)) := by
  have hpasses : negOverflows (y.toNat - z.toNat) = false := by
    have hy := y.isLt
    rw [Bool.eq_false_iff, ne_eq, negOverflows_iff]
    omega
  have hexec : exec (.negi x y z) s = s.negate x ((immediate y).toNat - signed (immediate z)) := rfl
  rw [hexec, toNat_immediate, signed_immediate, State.negate, hpasses]
  rfl

/-- NEGU writes the low 64 bits of the exact unsigned difference (41_add_subtract.md R129). -/
theorem exec_negu (z : Reg) :
    exec (.negu x y z) s = s.result x (u64 (y.toNat - (s.reg z).toNat : Int)) := by
  rw [← toNat_immediate y]
  rfl

/-- The immediate form of NEGU, whose second operand is a constant too. -/
theorem exec_negui (z : Byte) :
    exec (.negui x y z) s = s.result x (u64 (y.toNat - z.toNat : Int)) := by
  rw [← toNat_immediate y, ← toNat_immediate z]
  rfl

end

/-! ## The statements on adding and subtracting -/

/-- Settles O20: each writes the low 64 bits of its exact result and then tests that result. -/
theorem signedAddAndSubtract : Obligations.SignedAddAndSubtract := by
  refine ⟨bothForms_computesSigned ?_, bothForms_computesSigned ?_⟩
  all_goals exact fun _ _ _ => ⟨fun _ => ⟨rfl, rfl⟩, fun _ => ⟨rfl, rfl⟩⟩

/-- Settles O21: NEG writes and tests like ADD and SUB, but for the one end of the range that it tests,
and NEGI never reaches it (`exec_negi`). -/
theorem negate : Obligations.Negate := fun s x y =>
  ⟨fun z => signals_of_exec_eq_setReg_complete rfl (exec_neg s x y z) (negOverflows_iff _),
    fun z => sets_of_exec_eq_result rfl (exec_negi s x y z)⟩

/-- Settles O22: each writes the low 64 bits of an exact result and makes no test. -/
theorem unsignedAddAndSubtract : Obligations.UnsignedAddAndSubtract := by
  refine ⟨bothForms_computes ?_ toNat_u64_add, bothForms_computes ?_ (toNat_u64_mul_add 2),
    bothForms_computes ?_ (toNat_u64_mul_add 4), bothForms_computes ?_ (toNat_u64_mul_add 8),
    bothForms_computes ?_ (toNat_u64_mul_add 16),
    bothForms_computes ?_ fun y z => toNat_u64 (y.toNat - z.toNat),
    fun s x y => ⟨fun z => ?negu, fun z => ?negui⟩⟩
  case negu => exact ⟨_, toNat_u64 _, sets_of_exec_eq_result rfl (exec_negu s x y z)⟩
  case negui => exact ⟨_, toNat_u64 _, sets_of_exec_eq_result rfl (exec_negui s x y z)⟩
  all_goals exact fun _ _ _ => ⟨fun _ => ⟨rfl, rfl⟩, fun _ => ⟨rfl, rfl⟩⟩

end Sys2Proof.Machine
end

section
/-! Bitwise operations, saturating differences, sideways add and bit-matrix products: the statements of
42_bitwise.md. -/

namespace Sys2Proof.Machine

/-! ## Bits -/

theorem getLsbD_not_of_lt (v : Word) {j : Nat} (h : j < 64) : (~~~v).getLsbD j = !v.getLsbD j := by
  rw [BitVec.getLsbD_not, decide_eq_true h, Bool.true_and]

/-- Bit j of a multiplexed value is bit j of the operand that bit j of the mask selects
(42_bitwise.md R148). -/
theorem getLsbD_multiplex (mask y z : Word) {j : Nat} (h : j < 64) :
    (multiplex mask y z).getLsbD j = if mask.getLsbD j then y.getLsbD j else z.getLsbD j := by
  rw [multiplex, BitVec.getLsbD_or, BitVec.getLsbD_and, BitVec.getLsbD_and, getLsbD_not_of_lt _ h]
  cases mask.getLsbD j <;> simp

/-! ## Saturating differences -/

/-- Lane j of the saturating differences of all lanes (42_bitwise.md R150 to R153). -/
theorem lane_saturatingDifference (w : Nat) (y z : Word) {j : Nat} (h : j < 64 / w) :
    lane w j (saturatingDifference w y z) = lane w j y - lane w j z := by
  have hlt : lanesDifference w y z (64 / w) < 2 ^ 64 :=
    (lanesDifference_lt w y z _).trans_le (Nat.pow_le_pow_right Nat.two_pos (Nat.mul_div_le 64 w))
  rw [lane, saturatingDifference, BitVec.toNat_ofNat, Nat.mod_eq_of_lt hlt]
  exact lanesDifference_lane w y z _ j h

/-- The one lane of 64 bits is the whole value. -/
theorem lane_64_zero (v : Word) : lane 64 0 v = v.toNat := by
  rw [lane, Nat.mul_zero, pow_zero, Nat.div_one, Nat.mod_eq_of_lt v.isLt]

theorem toNat_saturatingDifference_64 (y z : Word) :
    (saturatingDifference 64 y z).toNat = y.toNat - z.toNat := by
  simpa only [lane_64_zero] using lane_saturatingDifference 64 y z (j := 0) (by decide)

/-! ## Sideways add -/

theorem onesBelow_eq_length_filter (v : Word) (n : Nat) :
    onesBelow v n = ((List.range n).filter v.getLsbD).length := by
  induction n with
  | zero => rfl
  | succ n ih =>
    rw [onesBelow, ih, List.range_succ, List.filter_append, List.length_append]
    cases hbit : v.getLsbD n <;> simp [hbit]

theorem popcount_le (v : Word) : popcount v ≤ 64 := by
  rw [popcount, onesBelow_eq_length_filter]
  exact (List.length_filter_le _ _).trans_eq List.length_range

/-- What SADD writes is the number of positions with a 1 in `y` and a 0 in `z` (42_bitwise.md R155). -/
theorem toNat_u64_popcount_andn (y z : Word) :
    (u64 (popcount (y &&& ~~~z))).toNat =
      ((List.range 64).filter fun j => y.getLsbD j && !z.getLsbD j).length := by
  have hbits : ∀ j ∈ List.range 64, (y &&& ~~~z).getLsbD j = (y.getLsbD j && !z.getLsbD j) := by
    intro j hj
    rw [BitVec.getLsbD_and, getLsbD_not_of_lt z (List.mem_range.1 hj)]
  have hle := popcount_le (y &&& ~~~z)
  rw [toNat_u64_natCast, Nat.mod_eq_of_lt (by omega), popcount, onesBelow_eq_length_filter,
    List.filter_congr hbits]

/-! ## Entries of matrix products -/

theorem foldl_or_eq_any (f : Nat → Bool) (l : List Nat) (b : Bool) :
    l.foldl (fun b k => or b (f k)) b = (b || l.any f) := by
  induction l generalizing b with
  | nil => simp
  | cons k l ih => rw [List.foldl_cons, ih, List.any_cons, Bool.or_assoc]

/-- Exclusive or of the values of a list tells whether an odd number of them is true. -/
theorem foldl_xor_eq_odd_length_filter (f : Nat → Bool) (l : List Nat) (b : Bool) :
    l.foldl (fun b k => xor b (f k)) b = (b ^^ decide ((l.filter f).length % 2 = 1)) := by
  induction l generalizing b with
  | nil => simp
  | cons k l ih =>
    rw [List.foldl_cons, ih]
    cases hk : f k with
    | false => rw [List.filter_cons_of_neg (by simp [hk]), Bool.xor_false]
    | true =>
      have hparity (n : Nat) : decide ((n + 1) % 2 = 1) = !decide (n % 2 = 1) := by
        rw [← decide_not, decide_eq_decide]
        omega
      rw [List.filter_cons_of_pos hk, List.length_cons, hparity, Bool.xor_assoc, Bool.true_xor]

/-- An entry of the Boolean product (42_bitwise.md R157). -/
theorem matrixEntry_or_iff (y z : Word) (i j : Nat) :
    matrixEntry or y z i j = true ↔
      ∃ k, k < 8 ∧ matrixBit y k j = true ∧ matrixBit z i k = true := by
  rw [matrixEntry, foldl_or_eq_any, Bool.false_or, List.any_eq_true]
  simp only [List.mem_range, Bool.and_eq_true]

/-- An entry of the product over the field of two elements (42_bitwise.md R158). -/
theorem matrixEntry_xor (y z : Word) (i j : Nat) :
    matrixEntry xor y z i j =
      decide (((List.range 8).filter fun k => matrixBit y k j && matrixBit z i k).length % 2 = 1) := by
  rw [matrixEntry, foldl_xor_eq_odd_length_filter, Bool.false_xor]

/-! ## Products with a row that has at most one 1 -/

section
variable {op : Bool → Bool → Bool} [Std.LawfulIdentity op false] {f : Nat → Bool} {l : List Nat}

theorem foldl_eq_self_of_forall_false (h : ∀ k ∈ l, f k = false) (b : Bool) :
    l.foldl (fun b k => op b (f k)) b = b := by
  induction l with
  | nil => rfl
  | cons k l ih =>
    rw [List.forall_mem_cons] at h
    rw [List.foldl_cons, h.1, Std.LawfulRightIdentity.right_id (op := op), ih h.2]

theorem foldl_eq_of_forall_ne_false {m : Nat} (hl : l.Nodup) (hm : m ∈ l)
    (h : ∀ k ∈ l, k ≠ m → f k = false) : l.foldl (fun b k => op b (f k)) false = f m := by
  induction l with
  | nil => simp at hm
  | cons k l ih =>
    obtain ⟨hk, hl⟩ := List.nodup_cons.1 hl
    obtain ⟨hhead, htail⟩ := List.forall_mem_cons.1 h
    rw [List.foldl_cons, Std.LawfulLeftIdentity.left_id (op := op)]
    obtain rfl | hm := List.mem_cons.1 hm
    · exact foldl_eq_self_of_forall_false (fun j hj => htail j hj fun e => hk (e ▸ hj)) _
    · rw [hhead fun e => hk (e ▸ hm)]
      exact ih hl hm htail

variable (op)

/-- If row i of the second operand has no 1, row i of the product has none. -/
theorem matrixBit_matrixProduct_of_row_zero (y : Word) {z : Word} {i j : Nat} (hi : i < 8) (hj : j < 8)
    (hrow : ∀ k, k < 8 → matrixBit z i k = false) :
    matrixBit (matrixProduct op y z) i j = false := by
  rw [matrixBit_matrixProduct op y z i j hi hj]
  refine foldl_eq_self_of_forall_false (fun k hk => ?_) false
  rw [hrow k (List.mem_range.1 hk), Bool.and_false]

/-- If the only 1 of row i of the second operand is in column m, row i of the product is row m of the
first operand. -/
theorem matrixBit_matrixProduct_of_row_unit (y : Word) {z : Word} {i j m : Nat} (hi : i < 8)
    (hj : j < 8) (hm : m < 8) (hrow : ∀ k, k < 8 → matrixBit z i k = decide (k = m)) :
    matrixBit (matrixProduct op y z) i j = matrixBit y m j := by
  have hother : ∀ k ∈ List.range 8, k ≠ m → (matrixBit y k j && matrixBit z i k) = false := by
    intro k hk hne
    rw [hrow k (List.mem_range.1 hk), decide_eq_false hne, Bool.and_false]
  rw [matrixBit_matrixProduct op y z i j hi hj, matrixEntry,
    foldl_eq_of_forall_ne_false List.nodup_range (List.mem_range.2 hm) hother, hrow m hm,
    decide_eq_true rfl, Bool.and_true]

end

/-! ## Words as matrices -/

/-- Every bit of a value is an entry of its matrix (42_bitwise.md R156). -/
theorem getLsbD_eq_matrixBit (v : Word) {p : Nat} (h : p < 64) :
    v.getLsbD p = matrixBit v ((63 - p) / 8) ((63 - p) % 8) := by
  rw [matrixBit]
  congr 1
  omega

theorem eq_of_matrixBit_eq {v w : Word}
    (h : ∀ i j, i < 8 → j < 8 → matrixBit v i j = matrixBit w i j) : v = w := by
  refine BitVec.eq_of_getLsbD_eq fun p hp => ?_
  rw [getLsbD_eq_matrixBit v hp, getLsbD_eq_matrixBit w hp, h _ _ (by omega) (by omega)]

/-- If the rows of one matrix are those of the other in reverse order, so are the bytes. -/
theorem extractLsb'_eq_of_matrixBit_rev {v w : Word}
    (h : ∀ i j, i < 8 → j < 8 → matrixBit v i j = matrixBit w (7 - i) j) {i : Nat} (hi : i < 8) :
    v.extractLsb' (8 * i) 8 = w.extractLsb' (56 - 8 * i) 8 := by
  refine BitVec.eq_of_getLsbD_eq fun p hp => ?_
  rw [BitVec.getLsbD_extractLsb', BitVec.getLsbD_extractLsb']
  have hrow := h (7 - i) (7 - p) (by omega) (by omega)
  rw [matrixBit, matrixBit, show 63 - 8 * (7 - i) - (7 - p) = 8 * i + p by omega,
    show 63 - 8 * (7 - (7 - i)) - (7 - p) = 56 - 8 * i + p by omega] at hrow
  rw [hrow]

/-- If the seven high rows of a matrix are zero, the value is its low byte. -/
theorem toNat_lt_of_matrixBit_false {v : Word}
    (h : ∀ i j, i < 7 → j < 8 → matrixBit v i j = false) : v.toNat < 256 := by
  refine Nat.lt_pow_two_of_testBit (n := 8) _ fun p hp => ?_
  rw [BitVec.testBit_toNat]
  by_cases hlt : p < 64
  · rw [getLsbD_eq_matrixBit v hlt, h _ _ (by omega) (by omega)]
  · exact BitVec.getLsbD_of_ge v p (by omega)

/-! ## The two constants and the immediate operand -/

theorem matrixBit_reversal : ∀ i, i < 8 → ∀ k, k < 8 →
    matrixBit 0x0102040810204080 i k = decide (k = 7 - i) := by
  decide

theorem matrixBit_identity : ∀ i, i < 8 → ∀ k, k < 8 →
    matrixBit 0x8040201008040201 i k = decide (k = i) := by
  decide

/-- The immediate operand fills the lowest row only. -/
theorem matrixBit_immediate (z : Byte) {i k : Nat} (hi : i < 7) (hk : k < 8) :
    matrixBit (immediate z) i k = false := by
  rw [matrixBit, immediate, BitVec.getLsbD_setWidth, BitVec.getLsbD_of_ge z _ (by omega),
    Bool.and_false]

section
variable (op : Bool → Bool → Bool) [Std.LawfulIdentity op false] (y : Word)

theorem matrixBit_matrixProduct_reversal {i j : Nat} (hi : i < 8) (hj : j < 8) :
    matrixBit (matrixProduct op y 0x0102040810204080) i j = matrixBit y (7 - i) j :=
  matrixBit_matrixProduct_of_row_unit op y hi hj (by omega) (matrixBit_reversal i hi)

theorem matrixProduct_identity : matrixProduct op y 0x8040201008040201 = y :=
  eq_of_matrixBit_eq fun i _ hi hj =>
    matrixBit_matrixProduct_of_row_unit op y hi hj hi (matrixBit_identity i hi)

theorem toNat_matrixProduct_immediate_lt (z : Byte) :
    (matrixProduct op y (immediate z)).toNat < 256 :=
  toNat_lt_of_matrixBit_false fun _ _ hi hj =>
    matrixBit_matrixProduct_of_row_zero op y (by omega) hj fun _ hk => matrixBit_immediate z hi hk

end

/-- The rows of a product with the first constant do not depend on how entries are combined. -/
theorem matrixProduct_xor_reversal (y : Word) :
    matrixProduct xor y 0x0102040810204080 = matrixProduct or y 0x0102040810204080 :=
  eq_of_matrixBit_eq fun _ _ hi hj =>
    (matrixBit_matrixProduct_reversal xor y hi hj).trans
      (matrixBit_matrixProduct_reversal or y hi hj).symm

/-! ## The statements on bitwise, bytewise and matrix operations -/

/-- Settles O27: each writes the bit vector operation that has the Boolean function at every bit. -/
theorem bitwiseOperations : Obligations.BitwiseOperations := by
  refine ⟨bothForms_computes ?_ fun y z j _ => BitVec.getLsbD_and,
    bothForms_computes ?_ fun y z j _ => BitVec.getLsbD_or,
    bothForms_computes ?_ fun y z j _ => BitVec.getLsbD_xor,
    bothForms_computes (f := fun y z => y &&& ~~~z) ?_ fun y z j hj => ?andn,
    bothForms_computes (f := fun y z => y ||| ~~~z) ?_ fun y z j hj => ?orn,
    bothForms_computes (f := fun y z => ~~~(y &&& z)) ?_ fun y z j hj => ?nand,
    bothForms_computes (f := fun y z => ~~~(y ||| z)) ?_ fun y z j hj => ?nor,
    bothForms_computes (f := fun y z => ~~~(y ^^^ z)) ?_ fun y z j hj => ?nxor⟩
  case andn => rw [BitVec.getLsbD_and, getLsbD_not_of_lt z hj]
  case orn => rw [BitVec.getLsbD_or, getLsbD_not_of_lt z hj]
  case nand => rw [getLsbD_not_of_lt _ hj, BitVec.getLsbD_and]
  case nor => rw [getLsbD_not_of_lt _ hj, BitVec.getLsbD_or]
  case nxor => rw [getLsbD_not_of_lt _ hj, BitVec.getLsbD_xor]
  all_goals exact fun _ _ _ => ⟨fun _ => ⟨rfl, rfl⟩, fun _ => ⟨rfl, rfl⟩⟩

/-- Settles O28: MUX writes the model's `multiplex` of the operands, with rM as the mask. -/
theorem multiplexes : Obligations.Multiplex := by
  refine bothForms_of_means (meaning := fun s x y z => s.result x (multiplex s.rM (s.reg y) z)) ?_
    fun _ _ _ _ _ _ ⟨hop, hexec⟩ =>
      ⟨_, fun _ hj => getLsbD_multiplex _ _ _ hj, sets_of_exec_eq_result hop hexec⟩
  exact fun _ _ _ => ⟨fun _ => ⟨rfl, rfl⟩, fun _ => ⟨rfl, rfl⟩⟩

/-- Settles O29: each writes the saturating differences of all its lanes. -/
theorem saturatingDifferences : Obligations.SaturatingDifferences := by
  refine ⟨bothForms_computes ?_ fun y z _ => lane_saturatingDifference 8 y z,
    bothForms_computes ?_ fun y z _ => lane_saturatingDifference 16 y z,
    bothForms_computes ?_ fun y z _ => lane_saturatingDifference 32 y z,
    bothForms_computes ?_ toNat_saturatingDifference_64⟩
  all_goals exact fun _ _ _ => ⟨fun _ => ⟨rfl, rfl⟩, fun _ => ⟨rfl, rfl⟩⟩

/-- Settles O30: the 1s of `$Y` and the complement of the second operand are the positions counted. -/
theorem sidewaysAdd : Obligations.SidewaysAdd :=
  bothForms_computes (f := fun y z => u64 (popcount (y &&& ~~~z)))
    (fun _ _ _ => ⟨fun _ => ⟨rfl, rfl⟩, fun _ => ⟨rfl, rfl⟩⟩) toNat_u64_popcount_andn

/-- Settles O31: the entries of a product are folds of `or` and of `xor`. -/
theorem matrixProducts : Obligations.MatrixProducts := by
  refine ⟨bothForms_computes (f := matrixProduct or) ?_ fun y z i j hi hj => ?mor,
    bothForms_computes (f := matrixProduct xor) ?_ fun y z i j hi hj => ?mxor⟩
  case mor =>
    have hentry := matrixBit_matrixProduct or y z i j hi hj
    exact (Bool.coe_iff_coe.2 hentry).trans (matrixEntry_or_iff y z i j)
  case mxor => exact (matrixBit_matrixProduct xor y z i j hi hj).trans (matrixEntry_xor y z i j)
  all_goals exact fun _ _ _ => ⟨fun _ => ⟨rfl, rfl⟩, fun _ => ⟨rfl, rfl⟩⟩

/-- Settles O32: every row of the two constants has one 1, which selects the row of `$Y` that the product
copies, and the seven high rows of an immediate operand have none. -/
theorem matrixConstants : Obligations.MatrixConstants := by
  refine ⟨fun s x y z hz => ?reversal, fun s x y z hz => ?identity, fun s x y z => ?immediate⟩
  case reversal =>
    refine ⟨matrixProduct or (s.reg y) 0x0102040810204080,
      fun i => extractLsb'_eq_of_matrixBit_rev fun _ _ => matrixBit_matrixProduct_reversal or (s.reg y),
      sets_of_exec_eq_result rfl ?mor, sets_of_exec_eq_result rfl ?mxor⟩
    case mor => rw [← hz]; rfl
    case mxor => rw [← matrixProduct_xor_reversal, ← hz]; rfl
  case identity =>
    have hor := matrixProduct_identity or (s.reg y)
    have hxor := matrixProduct_identity xor (s.reg y)
    rw [← hz] at hor hxor
    exact ⟨sets_of_exec_eq_result rfl (congrArg (s.result x) hor),
      sets_of_exec_eq_result rfl (congrArg (s.result x) hxor)⟩
  case immediate =>
    exact ⟨⟨_, toNat_matrixProduct_immediate_lt or (s.reg y) z, sets_of_exec_eq_result rfl rfl⟩,
      ⟨_, toNat_matrixProduct_immediate_lt xor (s.reg y) z, sets_of_exec_eq_result rfl rfl⟩⟩

end Sys2Proof.Machine
end

section
/-! The wyde immediates: the statements of 43_wyde_immediate.md. -/

namespace Sys2Proof.Machine

/-! ## The operand -/

/-- The model's multiple of YZ is YZ shifted left (43_wyde_immediate.md R170). -/
theorem wydeOperand_eq_shiftLeft (p : WydePosition) (yz : Wyde) :
    wydeOperand p yz = yz.setWidth 64 <<< wydeShift p := by
  have hcast : (yz.toNat : Int) * 2 ^ wydeShift p = (yz.toNat * 2 ^ wydeShift p : Nat) := by
    push_cast; rfl
  have hlt : yz.toNat < 2 ^ 64 := yz.isLt.trans (by decide)
  apply BitVec.eq_of_toNat_eq
  rw [wydeOperand, hcast, toNat_u64_natCast, BitVec.toNat_shiftLeft, BitVec.toNat_setWidth,
    Nat.mod_eq_of_lt hlt, Nat.shiftLeft_eq]

theorem wydeOperand_high (yz : Wyde) : wydeOperand .high yz = yz.setWidth 64 <<< 48 :=
  wydeOperand_eq_shiftLeft .high yz

theorem wydeOperand_mediumHigh (yz : Wyde) : wydeOperand .mediumHigh yz = yz.setWidth 64 <<< 32 :=
  wydeOperand_eq_shiftLeft .mediumHigh yz

theorem wydeOperand_mediumLow (yz : Wyde) : wydeOperand .mediumLow yz = yz.setWidth 64 <<< 16 :=
  wydeOperand_eq_shiftLeft .mediumLow yz

theorem wydeOperand_low (yz : Wyde) : wydeOperand .low yz = yz.setWidth 64 :=
  (wydeOperand_eq_shiftLeft .low yz).trans (BitVec.shiftLeft_zero _)

/-! ## The single instructions -/

/-- Settles O33: each writes the model's operand or its sum with `$X`. -/
theorem setAndIncrementWydes : Obligations.SetAndIncrementWydes := by
  intro s x yz
  rw [← wydeOperand_high, ← wydeOperand_mediumHigh, ← wydeOperand_mediumLow, ← wydeOperand_low]
  refine ⟨?seth, ?setmh, ?setml, ?setl, ?inch, ?incmh, ?incml, ?incl⟩
  all_goals exact sets_of_exec_eq_result rfl rfl

/-- Settles O34: each writes a bitwise operation of `$X` and the model's operand. -/
theorem orAndClearWydes : Obligations.OrAndClearWydes := by
  intro s x yz
  rw [← wydeOperand_high, ← wydeOperand_mediumHigh, ← wydeOperand_mediumLow, ← wydeOperand_low]
  refine ⟨?orh, ?ormh, ?orml, ?orl, ?andnh, ?andnmh, ?andnml, ?andnl⟩
  all_goals exact sets_of_exec_eq_result rfl rfl

/-! ## Four wydes in a register -/

/-- An operand has the bits of YZ at its own wyde and zeros elsewhere. -/
theorem getLsbD_wydeOperand (p : WydePosition) (yz : Wyde) {j : Nat} (h : j < 64) :
    (wydeOperand p yz).getLsbD j =
      if wydeShift p ≤ j ∧ j < wydeShift p + 16 then yz.getLsbD (j - wydeShift p) else false := by
  rw [wydeOperand_eq_shiftLeft, BitVec.getLsbD_shiftLeft, BitVec.getLsbD_setWidth]
  split
  · next hin => simp [h, Nat.not_lt.2 hin.1, show j - wydeShift p < 64 by omega]
  · next hout =>
    by_cases hlow : j < wydeShift p
    · simp [hlow]
    · simp [BitVec.getLsbD_of_ge yz (j - wydeShift p) (by omega)]

/-- The wydes do not overlap. -/
theorem wydeShift_separated {p q : WydePosition} (h : p ≠ q) :
    wydeShift p + 16 ≤ wydeShift q ∨ wydeShift q + 16 ≤ wydeShift p := by
  revert h
  cases p <;> cases q <;> decide

/-- Operands at different wydes have no 1 in common. -/
theorem wydeOperand_and_of_ne {p q : WydePosition} (h : p ≠ q) (a b : Wyde) :
    wydeOperand p a &&& wydeOperand q b = 0 := by
  refine BitVec.eq_of_getLsbD_eq fun j hj => ?_
  rw [BitVec.getLsbD_and, getLsbD_wydeOperand p a hj, getLsbD_wydeOperand q b hj]
  have hsep := wydeShift_separated h
  by_cases hp : wydeShift p ≤ j ∧ j < wydeShift p + 16
  · rw [if_neg (by omega : ¬ (wydeShift q ≤ j ∧ j < wydeShift q + 16)), Bool.and_false]
    exact BitVec.getLsbD_zero.symm
  · rw [if_neg hp, Bool.false_and]
    exact BitVec.getLsbD_zero.symm

/-- A value clear of c stays clear of it when b, which is clear of c too, is or-ed in. -/
theorem or_and_eq_zero {a b c : Word} (ha : a &&& c = 0) (hb : b &&& c = 0) :
    (a ||| b) &&& c = 0 := by
  rw [BitVec.and_comm, BitVec.and_or_distrib_left, BitVec.and_comm c, BitVec.and_comm c, ha, hb]
  rfl

/-- The four operands together are the four wydes one after the other (43_wyde_immediate.md R187). -/
theorem or_wydeOperands_eq_append (gh ij kl mn : Wyde) :
    wydeOperand .high gh ||| wydeOperand .mediumHigh ij ||| wydeOperand .mediumLow kl |||
      wydeOperand .low mn = gh ++ ij ++ kl ++ mn := by
  refine BitVec.eq_of_getLsbD_eq fun j hj => ?_
  simp only [BitVec.getLsbD_or, getLsbD_wydeOperand _ _ hj, wydeShift, BitVec.getLsbD_append]
  obtain hlow | hmediumLow | hmediumHigh | hhigh :
      j < 16 ∨ (16 ≤ j ∧ j < 32) ∨ (32 ≤ j ∧ j < 48) ∨ 48 ≤ j := by omega
  all_goals grind

/-! ## SETH and three of INC or OR -/

/-- The INC instruction of each wyde (43_wyde_immediate.md R175 to R178). -/
def incWyde : WydePosition → Reg → Wyde → Instr
  | .high => .inch
  | .mediumHigh => .incmh
  | .mediumLow => .incml
  | .low => .incl

/-- The OR instruction of each wyde (43_wyde_immediate.md R179 to R182). -/
def orWyde : WydePosition → Reg → Wyde → Instr
  | .high => .orh
  | .mediumHigh => .ormh
  | .mediumLow => .orml
  | .low => .orl

theorem exec_incWyde (p : WydePosition) (x : Reg) (yz : Wyde) (s : State) :
    exec (incWyde p x yz) s = s.result x (s.reg x + wydeOperand p yz) := by
  cases p <;> rfl

theorem exec_orWyde (p : WydePosition) (x : Reg) (yz : Wyde) (s : State) :
    exec (orWyde p x yz) s = s.result x (s.reg x ||| wydeOperand p yz) := by
  cases p <;> rfl

/-- Where `$X` has no 1 in common with the operand, INC adds without a carry: it does what OR does. -/
theorem exec_incWyde_or_orWyde {p : WydePosition} {x : Reg} {yz : Wyde} {s : State} {v : Word}
    (hreg : s.reg x = v) (hclear : v &&& wydeOperand p yz = 0) (inc : Bool) :
    exec (if inc then incWyde p x yz else orWyde p x yz) s =
      s.result x (v ||| wydeOperand p yz) := by
  subst hreg
  cases inc
  · exact exec_orWyde p x yz s
  · rw [← BitVec.add_eq_or_of_and_eq_zero _ _ hclear]
    exact exec_incWyde p x yz s

theorem WritesRegister.trans {s t u : State} {x : Reg} {v w : Word} (hst : WritesRegister s t x v)
    (htu : WritesRegister t u x w) : WritesRegister s u x w where
  value := htu.value
  others r hr := (htu.others r hr).trans (hst.others r hr)
  mask := htu.mask.trans hst.mask
  memory a := (htu.memory a).trans (hst.memory a)
  environment := htu.environment.trans hst.environment

/-- Settles O35: SETH clears the three low wydes, so each of the next three instructions finds its own
wyde zero (`exec_incWyde_or_orWyde`). -/
theorem fourWydeConstant : Obligations.FourWydeConstant := by
  intro s x gh ij kl mn p q r
  obtain ⟨-, t, ht, hwt, hot, hpt⟩ : Sets 0xE0 (.seth x gh) s x (wydeOperand .high gh) :=
    sets_of_exec_eq_result rfl rfl
  obtain ⟨-, u, hu, hwu, hou, hpu⟩ := sets_of_exec_eq_result rfl
    (exec_incWyde_or_orWyde (p := .mediumHigh) (yz := ij) hwt.value
      (wydeOperand_and_of_ne (by decide) _ _) p)
  obtain ⟨-, v, hv, hwv, hov, hpv⟩ := sets_of_exec_eq_result rfl
    (exec_incWyde_or_orWyde (p := .mediumLow) (yz := kl) hwu.value
      (or_and_eq_zero (wydeOperand_and_of_ne (by decide) _ _)
        (wydeOperand_and_of_ne (by decide) _ _)) q)
  obtain ⟨-, w, hw, hww, how, hpw⟩ := sets_of_exec_eq_result rfl
    (exec_incWyde_or_orWyde (p := .low) (yz := mn) hwv.value
      (or_and_eq_zero (or_and_eq_zero (wydeOperand_and_of_ne (by decide) _ _)
        (wydeOperand_and_of_ne (by decide) _ _)) (wydeOperand_and_of_ne (by decide) _ _)) r)
  rw [or_wydeOperands_eq_append] at hww
  refine ⟨t, u, v, w, ht, hu, hv, hw, hwt.trans (hwu.trans (hwv.trans hww)), ?ovf, ?pc⟩
  case ovf => rw [how, hov, hou, hot]
  case pc => rw [hpw, hpv, hpu, hpt]; bv_omega

end Sys2Proof.Machine
end

section
/-! Shifts: the statements of 44_shift.md. -/

namespace Sys2Proof.Machine

/-! ## Counts of 64 and more

The model cuts the count at 64. What each shift computes is the same for every count from there on, so
it may be read with the whole second operand. -/

theorem shiftCount_of_le {n : Word} (h : n.toNat ≤ 64) : shiftCount n = n.toNat := min_eq_left h

theorem shiftCount_of_ge {n : Word} (h : 64 ≤ n.toNat) : shiftCount n = 64 := min_eq_right h

/-- A function of the count that is constant from 64 on does not see the cut. -/
theorem apply_shiftCount {α : Type} {f : Nat → α} (hf : ∀ k, 64 ≤ k → f k = f 64) (n : Word) :
    f (shiftCount n) = f n.toNat := by
  obtain h | h := le_total n.toNat 64
  · rw [shiftCount_of_le h]
  · rw [shiftCount_of_ge h, hf _ h]

section
variable {k : Nat} (h : 64 ≤ k)
include h

/-- The 64 low bits of a multiple of 2^64 are zero. -/
theorem u64_mul_two_pow_of_ge (i : Int) : u64 (i * 2 ^ k) = 0 := by
  have hpow : u64 (2 ^ k) = 0 := by
    apply BitVec.eq_of_toNat_eq
    have hcast : (2 : Int) ^ k = (2 ^ k : Nat) := by push_cast; rfl
    rw [hcast, toNat_u64_natCast, Nat.mod_eq_zero_of_dvd (Nat.pow_dvd_pow 2 h)]
    rfl
  rw [u64_mul, hpow, mul_zero]

/-- A multiple of 2^64 is in the signed range only if it is zero (44_shift.md R190). -/
theorem overflows_mul_two_pow_of_ge (i : Int) : overflows (i * 2 ^ k) = true ↔ i ≠ 0 := by
  have hpow : (2 : Int) ^ 64 ≤ 2 ^ k := pow_le_pow_right₀ (by decide) h
  rw [overflows_iff]
  obtain hneg | rfl | hpos := lt_trichotomy i 0
  · exact iff_of_true (.inr (by nlinarith)) hneg.ne
  · simp
  · exact iff_of_true (.inl (by nlinarith)) hpos.ne'

/-- The floor of a signed value over 2^64 or more shows its sign only (44_shift.md R192). -/
theorem signed_ediv_two_pow_of_ge (y : Word) :
    signed y / 2 ^ k = if signed y < 0 then -1 else 0 := by
  have hpow : (2 : Int) ^ 64 ≤ 2 ^ k := pow_le_pow_right₀ (by decide) h
  obtain ⟨hlow, hhigh⟩ := signed_range y
  split
  · next hneg => exact Int.ediv_eq_neg_one_of_neg_of_le hneg (by omega)
  · next hpos => exact Int.ediv_eq_zero_of_lt (by omega) (by omega)

/-- The floor of an unsigned value over 2^64 or more is zero (44_shift.md R193). -/
theorem toNat_div_two_pow_of_ge (y : Word) : y.toNat / 2 ^ k = 0 :=
  Nat.div_eq_of_lt (y.isLt.trans_le (Nat.pow_le_pow_right Nat.two_pos h))

end

/-! ## The shifts with the whole second operand as count -/

theorem u64_mul_two_pow_shiftCount (i : Int) (n : Word) :
    u64 (i * 2 ^ shiftCount n) = u64 (i * 2 ^ n.toNat) :=
  apply_shiftCount (f := fun k => u64 (i * 2 ^ k))
    (fun _ h => by rw [u64_mul_two_pow_of_ge h, u64_mul_two_pow_of_ge le_rfl]) n

theorem overflows_mul_two_pow_shiftCount (i : Int) (n : Word) :
    overflows (i * 2 ^ shiftCount n) = overflows (i * 2 ^ n.toNat) :=
  apply_shiftCount (f := fun k => overflows (i * 2 ^ k))
    (fun _ h => Bool.eq_iff_iff.2
      ((overflows_mul_two_pow_of_ge h i).trans (overflows_mul_two_pow_of_ge le_rfl i).symm)) n

/-- SL writes and tests its exact product as ADD its exact sum (44_shift.md R190). -/
theorem shiftLeft_eq_signedResult (s : State) (x : Reg) (y n : Word) :
    s.shiftLeft x y n = s.signedResult x (signed y * 2 ^ n.toNat) := by
  rw [State.shiftLeft, State.signedResult, u64_mul_two_pow_shiftCount,
    overflows_mul_two_pow_shiftCount]

/-- SLU multiplies modulo 2^64 (44_shift.md R191). -/
theorem toNat_shiftedLeftUnsigned (y n : Word) :
    (shiftedLeftUnsigned y n).toNat = y.toNat * 2 ^ n.toNat % 2 ^ 64 := by
  rw [shiftedLeftUnsigned, u64_mul_two_pow_shiftCount]
  exact_mod_cast toNat_u64_natCast (y.toNat * 2 ^ n.toNat)

/-- SR divides the signed value and rounds down; the quotient is in the signed range
(44_shift.md R192). -/
theorem toInt_shiftedRight (y n : Word) : (shiftedRight y n).toInt = y.toInt / 2 ^ n.toNat := by
  obtain ⟨hlow, hhigh⟩ := signed_range y
  have hpow : (1 : Int) ≤ 2 ^ shiftCount n := one_le_pow₀ (by decide)
  calc (shiftedRight y n).toInt
    _ = signed y / 2 ^ shiftCount n :=
      signed_u64 _ (Int.le_ediv_of_mul_le (by omega) (by nlinarith))
        (Int.ediv_lt_of_lt_mul (by omega) (by nlinarith))
    _ = signed y / 2 ^ n.toNat :=
      apply_shiftCount (f := fun k => signed y / 2 ^ k)
        (fun _ h => by rw [signed_ediv_two_pow_of_ge h, signed_ediv_two_pow_of_ge le_rfl]) n

/-- SRU divides the unsigned value and rounds down (44_shift.md R193). -/
theorem toNat_shiftedRightUnsigned (y n : Word) :
    (shiftedRightUnsigned y n).toNat = y.toNat / 2 ^ n.toNat := by
  have hcast : (y.toNat : Int) / 2 ^ shiftCount n = (y.toNat / 2 ^ shiftCount n : Nat) := by
    push_cast; rfl
  calc (shiftedRightUnsigned y n).toNat
    _ = y.toNat / 2 ^ shiftCount n := by
      rw [shiftedRightUnsigned, hcast, toNat_u64_natCast,
        Nat.mod_eq_of_lt ((Nat.div_le_self _ _).trans_lt y.isLt)]
    _ = y.toNat / 2 ^ n.toNat :=
      apply_shiftCount (f := fun k => y.toNat / 2 ^ k)
        (fun _ h => by rw [toNat_div_two_pow_of_ge h, toNat_div_two_pow_of_ge le_rfl]) n

/-! ## Overflow seen in the high bits -/

/-- A value is below 2^m exactly if its bits from m on are zero. -/
theorem toNat_lt_two_pow_iff (v : Word) (m : Nat) :
    v.toNat < 2 ^ m ↔ ∀ j, m ≤ j → j ≤ 63 → v.getLsbD j = false := by
  refine ⟨fun h j hm _ => Nat.testBit_lt_two_pow (h.trans_le (Nat.pow_le_pow_right Nat.two_pos hm)),
    fun h => Nat.lt_pow_two_of_testBit _ fun j hm => ?_⟩
  by_cases hj : j ≤ 63
  · exact h j hm hj
  · exact BitVec.getLsbD_of_ge v j (by omega)

/-- A signed value fits m bits and a sign exactly if its bits from m on all equal the sign bit. -/
theorem toInt_fits_iff (v : Word) (m : Nat) :
    -(2 ^ m) ≤ v.toInt ∧ v.toInt < 2 ^ m ↔
      ∀ j, m ≤ j → j ≤ 63 → v.getLsbD j = v.getLsbD 63 := by
  have hmsb : v.getLsbD 63 = v.msb := (BitVec.msb_eq_getLsbD_last v).symm
  have hlt := v.isLt
  rw [hmsb, BitVec.toInt_eq_msb_cond]
  cases hsign : v.msb
  case false =>
    rw [← toNat_lt_two_pow_iff, if_neg Bool.false_ne_true]
    have hcast : v.toNat < 2 ^ m ↔ (v.toNat : Int) < 2 ^ m := by exact_mod_cast Iff.rfl
    omega
  case true =>
    have hnot : (∀ j, m ≤ j → j ≤ 63 → v.getLsbD j = true) ↔ (~~~v).toNat < 2 ^ m := by
      rw [toNat_lt_two_pow_iff]
      refine forall_congr' fun j => forall_congr' fun _ => forall_congr' fun hj => ?_
      rw [getLsbD_not_of_lt v (by omega), Bool.not_eq_false']
    have hcast : (~~~v).toNat < 2 ^ m ↔ ((~~~v).toNat : Int) < 2 ^ m := by exact_mod_cast Iff.rfl
    rw [hnot, hcast, if_pos rfl, BitVec.toNat_not]
    omega

/-- The product is in range exactly if the value fits the bits that a shift by `n` leaves it. -/
theorem overflows_mul_two_pow_iff_bits (v : Word) {n : Nat} (h : n ≤ 63) :
    overflows (signed v * 2 ^ n) = true ↔
      ¬ ∀ j, 63 - n ≤ j → j ≤ 63 → v.getLsbD j = v.getLsbD 63 := by
  have hpos : (0 : Int) < 2 ^ n := by positivity
  have hsplit : (2 : Int) ^ 63 = 2 ^ (63 - n) * 2 ^ n := by rw [← pow_add, Nat.sub_add_cancel h]
  rw [← toInt_fits_iff, overflows_iff, signed, hsplit, ← neg_mul, mul_le_mul_iff_left₀ hpos,
    mul_lt_mul_iff_left₀ hpos]
  omega

/-- The bits of `$Y` that decide whether SL overflows, for every count (44_shift.md R190). -/
theorem overflows_mul_two_pow_iff (v n : Word) :
    overflows (signed v * 2 ^ n.toNat) = true ↔
      if n.toNat < 64 then ¬ ∀ j, 63 - n.toNat ≤ j → j ≤ 63 → v.getLsbD j = v.getLsbD 63
      else v ≠ 0 := by
  split
  · next h => exact overflows_mul_two_pow_iff_bits v (by omega)
  · next h =>
    rw [overflows_mul_two_pow_of_ge (by omega), signed]
    exact BitVec.toInt_ne (y := 0)

/-! ## The statements on shifts -/

/-- Both forms of SL write the low 64 bits of the exact product and test it (44_shift.md R190). -/
theorem bothForms_sl_means : BothForms 0x38 0x39 .sl .sli
    (Means fun s x y n => s.signedResult x (signed (s.reg y) * 2 ^ n.toNat)) := fun s x _ =>
  ⟨fun _ => ⟨rfl, shiftLeft_eq_signedResult s x _ _⟩,
    fun _ => ⟨rfl, shiftLeft_eq_signedResult s x _ _⟩⟩

/-- Settles O36: SL is a `signedResult` of the exact product. -/
theorem shiftLeftSigned : Obligations.ShiftLeftSigned :=
  bothForms_computesSigned bothForms_sl_means

/-- Settles O37: under `fault` the exception is the test of the exact product, and the bits of `$Y` show
what that test finds. -/
theorem shiftLeftOverflowByBits : Obligations.ShiftLeftOverflowByBits := by
  refine bothForms_of_means bothForms_sl_means ?_
  rintro op i s x y n ⟨hop, hexec⟩ hfault
  rw [hexec, ← overflows_mul_two_pow_iff]
  exact ⟨hop, exists_complete_eq_integerOverflow_iff (u := s.setReg x _) hfault _⟩

/-- Settles O38: each writes the model's shift, whose reading is the product or the quotient. -/
theorem otherShifts : Obligations.OtherShifts := by
  refine ⟨bothForms_computes ?_ toNat_shiftedLeftUnsigned, bothForms_computes ?_ toInt_shiftedRight,
    bothForms_computes ?_ toNat_shiftedRightUnsigned⟩
  all_goals exact fun _ _ _ => ⟨fun _ => ⟨rfl, rfl⟩, fun _ => ⟨rfl, rfl⟩⟩

end Sys2Proof.Machine
end

section
/-! Comparisons and conditional instructions: the statements of 45_compare_conditional.md. -/

namespace Sys2Proof.Machine

/-! ## The eight conditions -/

/-- The second column of the table of the conditions, the reading in bits
(45_compare_conditional.md R202). -/
def Condition.ReadsBits : Condition → Word → Prop
  | .negative, v => v.msb = true
  | .zero, v => v = 0
  | .positive, v => v.msb = false ∧ v ≠ 0
  | .odd, v => v.getLsbD 0 = true
  | .nonnegative, v => v.msb = false
  | .nonzero, v => v ≠ 0
  | .nonpositive, v => v.msb = true ∨ v = 0
  | .even, v => v.getLsbD 0 = false

/-- The condition that holds exactly where the given one does not (45_compare_conditional.md R202). -/
def Condition.opposite : Condition → Condition
  | .negative => .nonnegative
  | .zero => .nonzero
  | .positive => .nonpositive
  | .odd => .even
  | .nonnegative => .negative
  | .nonzero => .zero
  | .nonpositive => .positive
  | .even => .odd

section
variable (v : Word)

theorem conditionHolds_nonnegative_eq_not :
    conditionHolds .nonnegative v = !conditionHolds .negative v := by
  rw [conditionHolds, conditionHolds, ← decide_not, decide_eq_decide, not_lt]

theorem conditionHolds_nonpositive_eq_not :
    conditionHolds .nonpositive v = !conditionHolds .positive v := by
  rw [conditionHolds, conditionHolds, ← decide_not, decide_eq_decide, not_lt]

theorem conditionHolds_even_eq_not : conditionHolds .even v = !conditionHolds .odd v := by
  obtain h | h := Nat.mod_two_eq_zero_or_one v.toNat <;> simp [conditionHolds, h]

theorem conditionHolds_opposite (c : Condition) :
    conditionHolds c.opposite v = !conditionHolds c v := by
  cases c with
  | negative => exact conditionHolds_nonnegative_eq_not v
  | zero => rfl
  | positive => exact conditionHolds_nonpositive_eq_not v
  | odd => exact conditionHolds_even_eq_not v
  | nonnegative => exact Bool.not_eq_eq_eq_not.1 (conditionHolds_nonnegative_eq_not v).symm
  | nonzero => exact (Bool.not_not _).symm
  | nonpositive => exact Bool.not_eq_eq_eq_not.1 (conditionHolds_nonpositive_eq_not v).symm
  | even => exact Bool.not_eq_eq_eq_not.1 (conditionHolds_even_eq_not v).symm

/-- The sign bit is set exactly in the values below zero. -/
theorem conditionHolds_negative : conditionHolds .negative v = v.msb := BitVec.msb_eq_toInt.symm

theorem conditionHolds_positive_iff : conditionHolds .positive v = true ↔ v.msb = false ∧ v ≠ 0 := by
  have hsign : v.msb = false ↔ 0 ≤ v.toInt := by
    rw [BitVec.msb_eq_toInt, decide_eq_false_iff_not, not_lt]
  have hzero : v ≠ 0 ↔ 0 ≠ v.toInt := not_congr (BitVec.toInt_inj.symm.trans eq_comm)
  rw [hsign, hzero, ← lt_iff_le_and_ne]
  exact decide_eq_true_iff

/-- The lowest bit is the parity. -/
theorem conditionHolds_odd : conditionHolds .odd v = v.getLsbD 0 := by
  rw [BitVec.getLsbD, Nat.testBit_zero]
  rfl

/-- A condition holds exactly when its reading in bits does (45_compare_conditional.md R202). -/
theorem conditionHolds_iff_readsBits (c : Condition) : conditionHolds c v = true ↔ c.ReadsBits v := by
  cases c with
  | negative => rw [conditionHolds_negative, Condition.ReadsBits]
  | zero => exact beq_iff_eq
  | positive => exact conditionHolds_positive_iff v
  | odd => rw [conditionHolds_odd, Condition.ReadsBits]
  | nonnegative => rw [conditionHolds_nonnegative_eq_not, conditionHolds_negative, Bool.not_eq_true',
      Condition.ReadsBits]
  | nonzero => exact conditionHolds_nonzero v
  | nonpositive => rw [conditionHolds_nonpositive_eq_not, Bool.not_eq_true', ← Bool.not_eq_true,
      conditionHolds_positive_iff, Condition.ReadsBits, Classical.not_and_iff_not_or_not,
      Bool.not_eq_false, not_ne_iff]
  | even => rw [conditionHolds_even_eq_not, conditionHolds_odd, Bool.not_eq_true', Condition.ReadsBits]

theorem eq_zero_iff_getLsbD : v = 0 ↔ ∀ j, j < 64 → v.getLsbD j = false := by
  rw [BitVec.eq_of_getLsbD_eq_iff]
  simp only [BitVec.ofNat_eq_ofNat, BitVec.getLsbD_zero]

theorem ne_zero_iff_getLsbD : v ≠ 0 ↔ ∃ j, j < 64 ∧ v.getLsbD j = true := by
  rw [ne_eq, eq_zero_iff_getLsbD]
  push Not
  simp only [ne_eq, Bool.not_eq_false]

end

/-- Settles O40: the readings by value are the model's own, and `conditionHolds_iff_readsBits` gives
those in bits. -/
theorem conditionsByValueAndByBits : Obligations.ConditionsByValueAndByBits := by
  intro v
  have hbits := conditionHolds_iff_readsBits v
  have hsign : v.msb = v.getLsbD 63 := v.msb_eq_getLsbD_last
  rw [← hsign, ← eq_zero_iff_getLsbD, ← ne_zero_iff_getLsbD]
  exact ⟨⟨decide_eq_true_iff, hbits .negative⟩, ⟨beq_iff_eq, hbits .zero⟩,
    ⟨decide_eq_true_iff, hbits .positive⟩, ⟨beq_iff_eq, hbits .odd⟩,
    ⟨decide_eq_true_iff, hbits .nonnegative⟩, ⟨bne_iff_ne, hbits .nonzero⟩,
    ⟨decide_eq_true_iff, hbits .nonpositive⟩, ⟨beq_iff_eq, hbits .even⟩,
    conditionHolds_opposite v .negative, conditionHolds_opposite v .zero,
    conditionHolds_opposite v .positive, conditionHolds_opposite v .odd⟩

/-! ## The comparisons -/

/-- A comparison answers one of three values (45_compare_conditional.md R200, R201). -/
theorem compareInts_eq (a b : Int) : compareInts a b = if a < b then -1 else if a = b then 0 else 1 := by
  obtain h | rfl | h := lt_trichotomy a b
  · rw [compareInts, if_neg h.not_gt, if_pos h, if_pos h]; rfl
  · simp only [compareInts, lt_irrefl, if_false, if_true]; rfl
  · rw [compareInts, if_pos h, if_neg h.not_gt, if_neg h.not_gt, if_neg h.ne']; rfl

theorem toInt_compareInts (a b : Int) :
    (compareInts a b).toInt = if a < b then -1 else if a = b then 0 else 1 := by
  rw [compareInts_eq]
  split
  · rfl
  · split <;> rfl

/-- Settles O39: each writes the model's comparison of the two operands, both read as signed numbers by
CMP and as unsigned ones by CMPU. -/
theorem comparisons : Obligations.Comparisons := by
  refine ⟨bothForms_computes (f := fun y z => compareInts (signed y) (signed z)) ?_
      fun y z => toInt_compareInts y.toInt z.toInt,
    bothForms_computes (f := fun y z => compareInts y.toNat z.toNat) ?_ fun y z => ?unsigned⟩
  case unsigned => simp only [toInt_compareInts, Nat.cast_lt, Nat.cast_inj]
  all_goals exact fun _ _ _ => ⟨fun _ => ⟨rfl, rfl⟩, fun _ => ⟨rfl, rfl⟩⟩

/-! ## The conditional instructions -/

theorem writesNothing_advance (s : State) : WritesNothing s s.advance :=
  ⟨fun _ => rfl, rfl, fun _ => rfl, rfl, rfl⟩

theorem conditionalSet_of_holds {s : State} {c : Condition} {y : Reg}
    (h : conditionHolds c (s.reg y) = true) (x : Reg) (z : Word) :
    s.conditionalSet c x y z = s.result x z := if_pos h

theorem conditionalSet_of_not_holds {s : State} {c : Condition} {y : Reg}
    (h : ¬ conditionHolds c (s.reg y) = true) (x : Reg) (z : Word) :
    s.conditionalSet c x y z = .next s.advance := if_neg h

section
variable {opRegister opImmediate : Byte} {register : Reg → Reg → Reg → Instr}
  {immediateForm : Reg → Reg → Byte → Instr}

/-- Both forms of a mnemonic that sets `$X` on a condition (45_compare_conditional.md R203). -/
theorem bothForms_setsIf (c : Condition)
    (h : BothForms opRegister opImmediate register immediateForm
      (Means fun s x y z => s.conditionalSet c x y z)) :
    BothForms opRegister opImmediate register immediateForm (SetsIf c.ReadsBits) := by
  refine bothForms_of_means h fun op i s x y z ⟨hop, hexec⟩ => ?_
  simp only [SetsIf, ← conditionHolds_iff_readsBits]
  refine ⟨fun hc => ?holds, fun hc => ?fails⟩
  case holds => exact sets_of_exec_eq_result hop (hexec.trans (conditionalSet_of_holds hc x z))
  case fails =>
    exact ⟨hop, _, hexec.trans (conditionalSet_of_not_holds hc x z), writesNothing_advance s, rfl⟩

/-- Both forms of a mnemonic that sets `$X` or makes it zero (45_compare_conditional.md R211). -/
theorem bothForms_setsOrZero (c : Condition)
    (h : BothForms opRegister opImmediate register immediateForm
      (Means fun s x y z => s.zeroOrSet c x y z)) :
    BothForms opRegister opImmediate register immediateForm (SetsOrZero c.ReadsBits) := by
  refine bothForms_of_means h fun op i s x y z ⟨hop, hexec⟩ => ?_
  have hsets := sets_of_exec_eq_result hop hexec
  simp only [SetsOrZero, ← conditionHolds_iff_readsBits]
  exact ⟨fun hc => by rwa [if_pos hc] at hsets, fun hc => by rwa [if_neg hc] at hsets⟩

end

/-- Settles O41: each is the model's `conditionalSet` on its condition. -/
theorem conditionalSets : Obligations.ConditionalSets := by
  refine ⟨bothForms_setsIf .negative ?_, bothForms_setsIf .zero ?_, bothForms_setsIf .positive ?_,
    bothForms_setsIf .odd ?_, bothForms_setsIf .nonnegative ?_, bothForms_setsIf .nonzero ?_,
    bothForms_setsIf .nonpositive ?_, bothForms_setsIf .even ?_⟩
  all_goals exact fun _ _ _ => ⟨fun _ => ⟨rfl, rfl⟩, fun _ => ⟨rfl, rfl⟩⟩

/-- Settles O42: each is the model's `zeroOrSet` on its condition. -/
theorem zeroOrSets : Obligations.ZeroOrSets := by
  refine ⟨bothForms_setsOrZero .negative ?_, bothForms_setsOrZero .zero ?_,
    bothForms_setsOrZero .positive ?_, bothForms_setsOrZero .odd ?_,
    bothForms_setsOrZero .nonnegative ?_, bothForms_setsOrZero .nonzero ?_,
    bothForms_setsOrZero .nonpositive ?_, bothForms_setsOrZero .even ?_⟩
  all_goals exact fun _ _ _ => ⟨fun _ => ⟨rfl, rfl⟩, fun _ => ⟨rfl, rfl⟩⟩

/-! ## The three equivalences of 45_compare_conditional.md R219 -/

/-- An unsigned comparison with zero finds out whether a value is zero. -/
theorem compareInts_toNat_zero (v : Word) :
    compareInts v.toNat 0 = if conditionHolds .nonzero v then 1 else 0 := by
  have hzero : (v.toNat : Int) = 0 ↔ ¬ conditionHolds .nonzero v = true := by
    rw [conditionHolds_nonzero, not_ne_iff, Nat.cast_eq_zero]
    exact BitVec.toNat_inj (y := 0)
  rw [compareInts_eq, if_neg (Int.natCast_nonneg _).not_gt, ite_cond_congr (propext hzero), ite_not]

/-- The lowest bit alone is 1 or 0. -/
theorem and_one (v : Word) : v &&& 1 = if conditionHolds .odd v then 1 else 0 := by
  rw [conditionHolds_odd]
  exact BitVec.and_one_eq_setWidth_ofBool_getLsbD.trans (by cases v.getLsbD 0 <;> rfl)

theorem setReg_reg (s : State) (x : Reg) : s.setReg x (s.reg x) = s := by
  rw [State.setReg, State.reg, Vector.set_getElem_self]

/-- To clear `$X` on a condition is to keep it on the opposite one and to clear it otherwise. -/
theorem conditionalSet_opposite_zero (s : State) (c : Condition) (x y : Reg) :
    s.conditionalSet c.opposite x y 0 = s.zeroOrSet c x y (s.reg x) := by
  rw [conditionalSet_eq, zeroOrSet_eq, conditionHolds_opposite]
  cases conditionHolds c (s.reg y) with
  | false => rfl
  | true => simp [setReg_reg]

/-- Settles O43: in each pair the two instructions write the same value, or leave `$r` as it is. -/
theorem threeStatedEquivalences : Obligations.ThreeStatedEquivalences := fun s r q =>
  ⟨congrArg (s.result r) (compareInts_toNat_zero (s.reg q)),
    conditionalSet_opposite_zero s .positive r q,
    congrArg (s.result r) (and_one (s.reg q))⟩

end Sys2Proof.Machine
end

section
/-! Branches and probable branches: the statements of 46_branch.md. -/

namespace Sys2Proof.Machine

/-- The branch on a condition (46_branch.md R231 to R238). -/
def Condition.branch : Condition → Direction → Reg → Wyde → Instr
  | .negative => ofDirection .bn .bnb
  | .zero => ofDirection .bz .bzb
  | .positive => ofDirection .bp .bpb
  | .odd => ofDirection .bod .bodb
  | .nonnegative => ofDirection .bnn .bnnb
  | .nonzero => ofDirection .bnz .bnzb
  | .nonpositive => ofDirection .bnp .bnpb
  | .even => ofDirection .bev .bevb

/-- The probable branch on a condition (46_branch.md R240 to R247). -/
def Condition.probableBranch : Condition → Direction → Reg → Wyde → Instr
  | .negative => ofDirection .pbn .pbnb
  | .zero => ofDirection .pbz .pbzb
  | .positive => ofDirection .pbp .pbpb
  | .odd => ofDirection .pbod .pbodb
  | .nonnegative => ofDirection .pbnn .pbnnb
  | .nonzero => ofDirection .pbnz .pbnzb
  | .nonpositive => ofDirection .pbnp .pbnpb
  | .even => ofDirection .pbev .pbevb

theorem exec_branch (c : Condition) (d : Direction) (x : Reg) (yz : Wyde) (s : State) :
    exec (c.branch d x yz) s = s.branch c d x yz := by
  cases c <;> cases d <;> rfl

theorem exec_probableBranch (c : Condition) (d : Direction) (x : Reg) (yz : Wyde) (s : State) :
    exec (c.probableBranch d x yz) s = s.branch c d x yz := by
  cases c <;> cases d <;> rfl

/-- The prediction is no part of the outcome (46_branch.md R239). -/
theorem exec_probableBranch_eq_exec_branch (s : State) (x : Reg) (yz : Wyde) (c : Condition)
    (d : Direction) : exec (c.probableBranch d x yz) s = exec (c.branch d x yz) s :=
  (exec_probableBranch c d x yz s).trans (exec_branch c d x yz s).symm

/-- A branch is taken exactly on its condition (46_branch.md R230). -/
theorem goes_of_exec_eq_branch_on {op : Byte} {i : Instr} {s : State} {c : Condition} {d : Direction}
    {x : Reg} {yz : Wyde} (hop : opcode i = op) (hexec : exec i s = s.branch c d x yz) :
    (c.ReadsBits (s.reg x) → Goes op i s (s.pc + BitVec.ofInt 64 (4 * branchOffset d yz))) ∧
      (¬ c.ReadsBits (s.reg x) → Goes op i s (s.pc + 4)) := by
  have hgoes := goes_of_exec_eq_branch hop hexec
  rw [← conditionHolds_iff_readsBits, ← branchTarget_eq]
  exact ⟨fun htaken => by rwa [if_pos htaken] at hgoes, fun hnot => by rwa [if_neg hnot] at hgoes⟩

/-- Both directions of a mnemonic that branches on a condition (46_branch.md R230). -/
theorem branches_of_exec {opForward opBackward : Byte} {forward backward : Reg → Wyde → Instr}
    {c : Condition}
    (hexec : ∀ d x yz s, exec (ofDirection forward backward d x yz) s = s.branch c d x yz)
    (hforward : ∀ x yz, opcode (forward x yz) = opForward)
    (hbackward : ∀ x yz, opcode (backward x yz) = opBackward) :
    Branches opForward opBackward forward backward c.ReadsBits := by
  intro s x yz
  obtain ⟨hforwardTaken, hforwardNot⟩ :=
    goes_of_exec_eq_branch_on (hforward x yz) (hexec .forward x yz s)
  obtain ⟨hbackwardTaken, hbackwardNot⟩ :=
    goes_of_exec_eq_branch_on (hbackward x yz) (hexec .backward x yz s)
  exact ⟨fun hc => ⟨hforwardTaken hc, hbackwardTaken hc⟩,
    fun hc => ⟨hforwardNot hc, hbackwardNot hc⟩⟩

/-- Settles O44: each is the model's `branch` on its condition. -/
theorem ordinaryBranches : Obligations.OrdinaryBranches := by
  refine ⟨branches_of_exec (exec_branch .negative) ?_ ?_,
    branches_of_exec (exec_branch .zero) ?_ ?_,
    branches_of_exec (exec_branch .positive) ?_ ?_,
    branches_of_exec (exec_branch .odd) ?_ ?_,
    branches_of_exec (exec_branch .nonnegative) ?_ ?_,
    branches_of_exec (exec_branch .nonzero) ?_ ?_,
    branches_of_exec (exec_branch .nonpositive) ?_ ?_,
    branches_of_exec (exec_branch .even) ?_ ?_⟩
  all_goals exact fun _ _ => rfl

/-- Settles O45: each is the model's `branch` on its condition. -/
theorem probableBranches : Obligations.ProbableBranches := by
  refine ⟨branches_of_exec (exec_probableBranch .negative) ?_ ?_,
    branches_of_exec (exec_probableBranch .zero) ?_ ?_,
    branches_of_exec (exec_probableBranch .positive) ?_ ?_,
    branches_of_exec (exec_probableBranch .odd) ?_ ?_,
    branches_of_exec (exec_probableBranch .nonnegative) ?_ ?_,
    branches_of_exec (exec_probableBranch .nonzero) ?_ ?_,
    branches_of_exec (exec_probableBranch .nonpositive) ?_ ?_,
    branches_of_exec (exec_probableBranch .even) ?_ ?_⟩
  all_goals exact fun _ _ => rfl

/-- Settles O46: the two mnemonics of each condition have one outcome in either direction. -/
theorem probableBranchesAreBranches : Obligations.ProbableBranchesAreBranches := by
  intro s x yz
  have hsame := exec_probableBranch_eq_exec_branch s x yz
  exact ⟨hsame .negative .forward, hsame .negative .backward,
    hsame .zero .forward, hsame .zero .backward,
    hsame .positive .forward, hsame .positive .backward,
    hsame .odd .forward, hsame .odd .backward,
    hsame .nonnegative .forward, hsame .nonnegative .backward,
    hsame .nonzero .forward, hsame .nonzero .backward,
    hsame .nonpositive .forward, hsame .nonpositive .backward,
    hsame .even .forward, hsame .even .backward⟩

end Sys2Proof.Machine
end

section
/-! The integer overflow exception, a step where no instruction is run, and the values of reset: the
statements of 60_exceptions.md. -/

namespace Sys2Proof.Machine

/-! ## A run that ends in the exception -/

/-- The states that an instruction can leave behind when it raises IntegerOverflow: its own write is
made, to its destination register or to the bytes it stores, and nothing else is (60_exceptions.md
R262). -/
inductive OwnWrite (i : Instr) (s : State) : State → Prop where
  | register (x : Reg) (v : Word) (hd : destination i = some x) : OwnWrite i s (s.setReg x v)
  | store (a : Word) (z : Size) (v : Word)
      (ha : storedAccess i s = some (accessAddress a z, sizeBytes z)) :
      OwnWrite i s (s.storeBytes a z v)

section
variable {i : Instr} {s t : State} (h : OwnWrite i s t)
include h

theorem OwnWrite.pc_eq : t.pc = s.pc := by
  cases h <;> rfl

theorem OwnWrite.ovf_eq : t.ovf = s.ovf := by
  cases h <;> rfl

theorem OwnWrite.rM_eq : t.rM = s.rM := by
  cases h <;> rfl

theorem OwnWrite.env_eq : t.env = s.env := by
  cases h <;> rfl

end

/-- The end of an instruction answers the exception only if it is due, under `fault`, and then it
carries the state and the location it is raised in. -/
theorem complete_eq_integerOverflow {u t : State} {o : Bool} {l : Word} :
    u.complete o = .fault (.integerOverflow l t) ↔
      o = true ∧ u.env.overflowResponse = .fault ∧ l = u.pc ∧ t = u := by
  rw [complete_eq_fault, Fault.integerOverflow.injEq]

/-- A load stops for other reasons only. -/
theorem load_ne_integerOverflow (s : State) (x : Reg) (a : Word) (z : Size) (f : Nat → Word)
    (l : Word) (t : State) : s.load x a z f ≠ .fault (.integerOverflow l t) := by
  intro h
  obtain ⟨-, hf⟩ | ⟨-, c, -, hf⟩ := (load_eq_fault _ _ _ _ _ _).1 h <;> cases hf

/-- A store answers the exception only at its end, once its bytes are written. -/
theorem complete_of_store_eq_integerOverflow {s t : State} {a : Word} {z : Size} {v : Word}
    {o : Bool} {l : Word} (h : s.store a z v o = .fault (.integerOverflow l t)) :
    (s.storeBytes a z v).complete o = .fault (.integerOverflow l t) := by
  obtain ⟨-, hf⟩ | ⟨-, -, hend⟩ := (store_eq_fault _ _ _ _ _ _).1 h
  · cases hf
  · exact hend

/-- An instruction that ends in IntegerOverflow can overflow, runs under `fault`, names its own
location and has made its own write (60_exceptions.md R261 to R263). -/
theorem exec_integerOverflow {i : Instr} {s t : State} {l : Word}
    (h : exec i s = .fault (.integerOverflow l t)) :
    canOverflow i = true ∧ s.env.overflowResponse = .fault ∧ l = s.pc ∧ OwnWrite i s t := by
  cases meaning_of_exec i s with
  | signed x v o hd hc he =>
    obtain ⟨-, hresponse, rfl, rfl⟩ := complete_eq_integerOverflow.1 (he.symm.trans h)
    exact ⟨hc, hresponse, rfl, .register x v hd⟩
  | store a z v o ha hc he =>
    have hend := complete_of_store_eq_integerOverflow (he.symm.trans h)
    obtain ⟨ho, hresponse, rfl, rfl⟩ := complete_eq_integerOverflow.1 hend
    exact ⟨hc.resolve_left (by simp [ho]), hresponse, rfl, .store a z v ha⟩
  | load x a z f ha hd he => exact absurd (he.symm.trans h) (load_ne_integerOverflow s x a z f l t)
  | register x v hd he => cases he.symm.trans h
  | conditional c x y z hd he =>
    cases (conditionalSet_eq s c x y z).symm.trans (he.symm.trans h)
  | branch c d x yz hd he => cases (branch_eq s c d x yz).symm.trans (he.symm.trans h)
  | unspecified op name ho he => cases he.symm.trans h

/-- The chart's names of the codes that can overflow (60_exceptions.md R261). -/
theorem mnemonic_of_canOverflow {i : Instr} (h : canOverflow i = true) :
    mnemonic i ∈ ["STB", "STBI", "STW", "STWI", "STT", "STTI", "ADD", "ADDI", "SUB", "SUBI",
      "NEG", "NEGI", "SL", "SLI"] := by
  cases i with
  | stb | stbi | stw | stwi | stt | stti | add | addi | sub | subi | neg | negi | sl | sli =>
    exact List.contains_iff_mem.1 rfl
  | _ => cases h

/-- Settles O57, from the codes that can overflow and the state in which they raise it. -/
theorem onlyFourteenCodesOverflow : Obligations.OnlyFourteenCodesOverflow := by
  intro i s t l hexec
  obtain ⟨hcode, hresponse, hlocation, hwrite⟩ := exec_integerOverflow hexec
  exact ⟨mnemonic_of_canOverflow hcode, hresponse, hlocation, hwrite.pc_eq, hwrite.ovf_eq,
    hwrite.rM_eq, hwrite.env_eq⟩

/-! ## A step that runs no instruction -/

/-- At an exit the run has ended, before anything is fetched (70_reset_and_hazards.md R282). -/
theorem step_of_exit {s : State} (hexit : s.location ∈ s.env.exit) :
    step s = .fault (.runEnded s) := by
  have hat : s.atExit = true := List.contains_iff_mem.2 hexit
  rw [step, if_pos hat]

/-- Away from the exits and outside `TEXT` the agent is stuck (70_reset_and_hazards.md R282). -/
theorem step_outside_text {s : State} (hexit : s.location ∉ s.env.exit)
    (htext : s.location ∉ s.env.text) : step s = .fault (.fetchOutsideText s.pc) := by
  have hat : ¬ s.atExit = true := fun h => hexit (List.contains_iff_mem.1 h)
  have hin : ¬ s.inText = true := fun h => htext (List.contains_iff_mem.1 h)
  rw [step, if_neg hat, if_neg hin]

/-- Settles O7: the two checks of a step before the fetch, both on the aligned location. -/
theorem stepOutsideTheProgram : Obligations.StepOutsideTheProgram := by
  rintro s _ rfl
  exact ⟨step_of_exit, step_outside_text⟩

/-! ## What reset holds -/

/-- Settles O50: the values of the launch with nothing given. -/
theorem resetOfTheModel : Obligations.ResetOfTheModel :=
  ⟨reg_reset, rfl, rfl, rfl, rfl, reset_eq_ofLaunch_standard⟩

end Sys2Proof.Machine
end
